-- ==== Sys2Proof/Word.lean ====
section
/-! DEFINITION. The words of the CMAC core: a byte, a 128-bit bus or 16-byte register, a 32-bit command or response
word, and the two block sizes the algorithm is defined for. -/

namespace Sys2Proof

/-- A byte: 8 bits, bit 7 the most significant (R11). -/
abbrev Byte := BitVec 8

/-- A 128-bit bus or a 16-byte register (R9, R53); `Machine.lane` says which bits byte `i` occupies. -/
abbrev Block := BitVec 128

/-- The width of `cmd_word` and `rsp_word` (R51, R61). -/
abbrev Word32 := BitVec 32

/-- The two legal block sizes (R6); `Rb` is undefined for every other size (R7), so the doubler takes this type. -/
inductive BlockSize where
  | b8
  | b16
  deriving DecidableEq, Repr

end Sys2Proof
end

