-- ==== Sys2Proof/Syntax.lean ====
section
/-! DEFINITION. The five commands of the core (R85), one constructor per row of spec/opcode_table.json. -/

namespace Sys2Proof

/-- A command as its command word spells it. WRITE's message bytes travel on `cmd_data` beside the word (R84), so they are
no part of it: the core samples them into State when it accepts the command (R52). -/
inductive Instr where
  /-- INIT, OP 0x01 (R106): construct an engine instance. -/
  | init
  /-- WRITE, OP 0x02 (R134): append `len` message bytes; LEN is an unsigned count (R82). -/
  | write (len : Nat)
  /-- FINALIZE, OP 0x03 (R135): produce the tag. -/
  | finalize
  /-- RESET, OP 0x04 (R136): start a new message with the same subkeys. -/
  | reset
  /-- INFO, OP 0x05 (R137): report the block size. -/
  | info
  deriving DecidableEq, Repr

end Sys2Proof
end

