-- ==== Sys2Proof/WellFormed.lean ====
section
/-! DEFINITION. Which terms of `Instr` a command word can spell. -/

namespace Sys2Proof

/-- LEN fits its 8-bit field (R82: "an unsigned count 0..255"). Whether it is at most BS_REG is no question of form:
BS_REG is state, and WRITE checks it when it executes (R82, R184). -/
def Instr.lenFits : Instr → Bool
  | .init => true
  | .write len => len < 256
  | .finalize => true
  | .reset => true
  | .info => true

/-- A command that some command word encodes. -/
def Instr.wellFormed (i : Instr) : Bool := i.lenFits

end Sys2Proof
end

