-- ==== Sys2Proof/Decode.lean ====
section
/-! DEFINITION. Decoding a command word (R80 to R88), total on all 32-bit words and rejecting by name; then the encoder. -/

namespace Sys2Proof

/-- Why a command word is illegal (R86). -/
inductive Illegal where
  /-- RSVD (`cmd_word[31:16]`) is non-zero (R83). -/
  | reservedBitsSet
  /-- OP names no command: 0x00 or 0x06..0xFF. -/
  | reservedOpcode
  /-- LEN is non-zero in a word that is not a WRITE (R82). -/
  | lengthNotZero
  deriving DecidableEq, Repr

/-- OP, `cmd_word[7:0]` (R80, R81). -/
def opField (w : Word32) : Byte := w.extractLsb' 0 8

/-- LEN, `cmd_word[15:8]` (R80, R82). -/
def lenField (w : Word32) : Byte := w.extractLsb' 8 8

/-- RSVD, `cmd_word[31:16]` (R80, R83). -/
def rsvdField (w : Word32) : BitVec 16 := w.extractLsb' 16 16

/-- R88, in its order of tests. -/
def decode (w : Word32) : Except Illegal Instr :=
  if rsvdField w ≠ 0 then .error .reservedBitsSet
  else if opField w = 0x02 then .ok (.write (lenField w).toNat)
  else if lenField w ≠ 0 then .error .lengthNotZero
  else if opField w = 0x01 then .ok .init
  else if opField w = 0x03 then .ok .finalize
  else if opField w = 0x04 then .ok .reset
  else if opField w = 0x05 then .ok .info
  else .error .reservedOpcode

/-- The opcode map (R85). -/
def Instr.opcode : Instr → Byte
  | .init => 0x01
  | .write _ => 0x02
  | .finalize => 0x03
  | .reset => 0x04
  | .info => 0x05

/-- LEN as the opcode map gives it (R85): WRITE's count, 0 for every other command. -/
def Instr.lenByte : Instr → Byte
  | .init => 0
  | .write len => BitVec.ofNat 8 len
  | .finalize => 0
  | .reset => 0
  | .info => 0

/-- The command word of a well-formed command (R85: `OP | (LEN << 8)`, RSVD = 0). -/
def encode (i : Instr) : Word32 := i.opcode.setWidth 32 ||| (i.lenByte.setWidth 32 <<< 8)

/-- The command that the decoder reads from the bits `w` of a row of spec/opcode_table.json. Every row is one 32-bit word
carried whole on `cmd_word` (R80, R87), so there is no order of bytes to choose; bits above `nbits` are 0. A number that
does not fit `nbits`, or a row longer than the one 32-bit word, is no command word. -/
def decodeTableWord (nbits w : Nat) : Option Instr :=
  if nbits ≤ 32 ∧ w < 2 ^ nbits then
    match decode (BitVec.ofNat 32 w) with
    | .ok i => some i
    | .error _ => none
  else none

end Sys2Proof
end

