-- ==== Sys2Proof/Config.lean ====
section
/-! DEFINITION. What the spec leaves to the implementation and this model leaves free. -/

namespace Sys2Proof

/-- The cipher function `E` of the spec (R8, R10, I2), on the 128-bit buses of the wrapper port (R57): the answer on
`enc_rsp_data` to a request with the given `enc_req_data`, under the cipher and key the number stands for. Free: nothing in
Lean can compute it or prove a value of it. `Machine.Cipher` says how State may fix it on chosen blocks (log entry 4). -/
opaque Config.blockCipher : Nat → Block → Block

end Sys2Proof
end

