-- ==== Sys2Proof/Machine/State.lean ====
section
/-! DEFINITION. The state of the core (R21, R29), what it samples and holds while a command is in progress, and the agents
on its ports: the cipher wrapper (R55) and the input pins at the coming clock edges (R51). -/

namespace Sys2Proof.Machine

/-- PHASE (R29), the core's control state. -/
inductive Phase where
  /-- No command in progress, `cmd_ready` = 1. -/
  | idle
  /-- A command has been accepted and is executing. -/
  | busy
  /-- The response is presented and not yet taken, `rsp_valid` = 1. -/
  | respond
  deriving DecidableEq, Repr

/-- Where the command in progress stands with its one cipher request (R56, R58). -/
inductive EncStage where
  /-- No request has been raised. -/
  | start
  /-- `enc_req_valid` = 1: the request is presented and not yet accepted. -/
  | request
  /-- `enc_rsp_ready` = 1: the request is outstanding. -/
  | await
  /-- The answer has been taken: no request of this command is left. -/
  | done
  deriving DecidableEq, Repr

/-- The cipher the wrapper holds, as plain data: a function of the requested block (R8, R57). `known` fixes its answers on
the listed blocks (the first entry for a block counts); on every other block it answers `Config.blockCipher key`
(log entry 4). -/
structure Cipher where
  key   : Nat
  known : List (Block × Block)
  deriving DecidableEq, Repr

/-- The cipher wrapper as the core sees it (R37, R55): the pins `cipher_bs`, `cipher_err` and `cipher_err_code`, and its
cipher. -/
structure Wrapper where
  cipherBs      : Byte
  cipherErr     : Bool
  cipherErrCode : Byte
  cipher        : Cipher
  deriving DecidableEq, Repr

/-- The core's input pins at one rising edge of `clk` (R51, R55), and what the platform changes just before that edge. -/
structure Edge where
  rstN        : Bool
  cmdValid    : Bool
  cmdWord     : Word32
  cmdData     : Block
  rspReady    : Bool
  encReqReady : Bool
  encRspValid : Bool
  /-- The model's own: whether the core's internal work is done at this edge. It stands for the open latencies `LAT_*`
  (R10, R223; log entry 2). -/
  coreDone    : Bool
  /-- The wrapper's new pins or cipher, if the platform changes them before this edge (R60, R217, R218). -/
  rewire      : Option Wrapper
  deriving DecidableEq, Repr

/-- The machine: the registers of R21, the ghost of R33, what the core holds while a command is in progress (R52, R56,
R106), and the agents around it. -/
structure State where
  /-- CONFIGURED (R22). -/
  configured : Bool
  /-- BS_REG (R23). -/
  bsReg      : Byte
  /-- K1 (R24). -/
  k1         : Block
  /-- K2 (R25). -/
  k2         : Block
  /-- X, the chaining value (R26). -/
  x          : Block
  /-- PB, the pending bytes (R27). -/
  pb         : Block
  /-- PLEN (R28). -/
  plen       : BitVec 5
  /-- PHASE (R29). -/
  phase      : Phase
  /-- RSP_WORD (R30). -/
  rspWord    : Word32
  /-- RSP_TAG (R30). -/
  rspTag     : Block
  /-- MSGLEN (R33), a ghost: no command reads it. -/
  msgLen     : Nat
  /-- `cmd_word` as sampled at the accepting edge (R52). -/
  cmdWord    : Word32
  /-- `cmd_data` as sampled at the accepting edge (R52). -/
  cmdData    : Block
  /-- `cipher_bs` as sampled for the INIT in progress (R106); 0 while there is none (R37). -/
  smpBs      : Byte
  /-- `cipher_err` as sampled for the INIT in progress (R106); 0 while there is none (R37). -/
  smpErr     : Bool
  /-- `cipher_err_code` as sampled for the INIT in progress (R106); 0 while there is none (R37). -/
  smpErrCode : Byte
  /-- The command's cipher request (R56). -/
  enc        : EncStage
  /-- The cipher wrapper (R55). -/
  wrapper    : Wrapper
  /-- The input pins at the coming rising edges, the next one first; after the last one the pins are quiet
  (log entry 3). -/
  edges      : List Edge
  deriving DecidableEq, Repr

/-- What stops the machine with a fault: nothing. The spec has no traps and no faults (R180, R189, R190): every outcome,
an error too, is a response, and a cipher that never answers leaves the core BUSY (R59), which is a next state. No one
raises a `Fault`, so none is unsafe (log entry 18). -/
inductive Fault
  deriving DecidableEq, Repr

/-- Why a step has no meaning. -/
inductive Refusal where
  /-- Raised by a refused arm of `exec` for a command that has no meaning yet: by no arm of this model. Safe: the machine
  stops. -/
  | notModelled (mnemonic : String)
  /-- Raised by the clock edge when the platform changes the cipher, its key or `cipher_bs` while a command is in progress
  (R60: "the model has no step for it"; I6). The spec calls this toward proving for platforms that do it (D29), so the log
  calls it unsafe (log entry 8). -/
  | cipherChangedWhileBusy
  deriving DecidableEq, Repr

/-- The wrapper before the platform has set it up: the spec leaves its pins and its cipher open (R10), and these values
are the model's (log entry 5). -/
def Wrapper.blank : Wrapper :=
  { cipherBs := 0, cipherErr := false, cipherErrCode := 0, cipher := { key := 0, known := [] } }

/-- The machine right after hardware reset (R21, R210, R211), with no input listed; what R21 does not name is as log entries
5 and 6 say. -/
def State.reset : State :=
  { configured := false, bsReg := 0, k1 := 0, k2 := 0, x := 0, pb := 0, plen := 0, phase := .idle, rspWord := 0,
    rspTag := 0, msgLen := 0, cmdWord := 0, cmdData := 0, smpBs := 0, smpErr := false, smpErrCode := 0, enc := .start,
    wrapper := .blank, edges := [] }

end Sys2Proof.Machine
end

