-- ==== Sys2Proof/Machine/Lanes.lean ====
section
/-! DEFINITION. Byte lanes of the 128-bit buses and 16-byte registers (R53), and the byte sequences of the pseudocode
(R12). -/

namespace Sys2Proof.Machine

/-- Lane `i` of a bus or register: bits `[127-8*i : 120-8*i]` (R53), for `i` = 0..15. -/
def lane (b : Block) (i : Nat) : Byte := b.extractLsb' (120 - 8 * i) 8

/-- Byte `v` in lane `i`, every other lane 0. -/
def placeLane (v : Byte) (i : Nat) : Block := v.setWidth 128 <<< (120 - 8 * i)

/-- The bytes of a bus or register, lane 0 first (R11, R53). -/
def blockBytes (b : Block) : List Byte := (List.range 16).map (lane b)

/-- The first `n` bytes of a sequence in lanes 0 to `n - 1`. -/
def packLanes (l : List Byte) : Nat → Block
  | 0 => 0
  | n + 1 => packLanes l n ||| placeLane (l.getD n 0) n

/-- `l ++ 0^(16 - len(l))` as a register or bus: byte `i` of `l` in lane `i`, the other lanes 0. -/
def blockOfBytes (l : List Byte) : Block := packLanes l 16

/-- `a ^ b` on byte sequences of equal length (R12). -/
def xorBytes (a b : List Byte) : List Byte := List.zipWith (· ^^^ ·) a b

/-- `0^k` (R12). -/
def zeros (k : Nat) : List Byte := List.replicate k 0

/-- `int(b)` (R11): the unsigned integer with `b[0]` the most significant byte. -/
def bytesInt (l : List Byte) : Nat := l.foldl (fun acc b => 256 * acc + b.toNat) 0

/-- The block size in bytes (R6). -/
def blockLen : BlockSize → Nat
  | .b8 => 8
  | .b16 => 16

/-- The block size a `cipher_bs` value stands for; none where INIT rejects it (R6, R107). -/
def toBlockSize (v : Byte) : Option BlockSize :=
  if v = 8 then some .b8 else if v = 16 then some .b16 else none

end Sys2Proof.Machine
end

