-- ==== Sys2Proof/Machine/Flags.lean ====
section
/-! DEFINITION. Status codes (R181) and the response word (R89). The core has no arithmetic flags: its one status flag is
CONFIGURED (R36), reported as CONF in every response word. -/

namespace Sys2Proof.Machine

/-- The status codes (R181). -/
inductive Status where
  /-- The command completed. -/
  | ok
  /-- The command word is illegal (R182). -/
  | illegalCommand
  /-- WRITE, FINALIZE or RESET with CONFIGURED = 0 (R183). -/
  | notConfigured
  /-- WRITE with LEN > BS_REG (R184). -/
  | illegalLength
  /-- INIT with `cipher_bs` neither 8 nor 16 (R185). -/
  | invalidBlockSize
  /-- INIT with `cipher_err` = 1 (R186). -/
  | cipherConstructionError
  deriving DecidableEq, Repr

/-- The number of a status code (R181). -/
def Status.code : Status → Byte
  | .ok => 0x00
  | .illegalCommand => 0x01
  | .notConfigured => 0x02
  | .illegalLength => 0x03
  | .invalidBlockSize => 0x10
  | .cipherConstructionError => 0x11

/-- CONF, the flag CONFIGURED as bit 16 of the response word (R36, R89). -/
def confFlag (configured : Bool) : Word32 := (BitVec.ofBool configured).setWidth 32 <<< 16

/-- The response word (R89): `zext_32(status) | (count << 8) | (CONFIGURED << 16)`. -/
def responseWord (status : Status) (count : Byte) (configured : Bool) : Word32 :=
  status.code.setWidth 32 ||| (count.setWidth 32 <<< 8) ||| confFlag configured

/-- STATUS, `rsp_word[7:0]` (R89). -/
def statusField (w : Word32) : Byte := w.extractLsb' 0 8

/-- COUNT, `rsp_word[15:8]` (R89). -/
def countField (w : Word32) : Byte := w.extractLsb' 8 8

/-- CONF, `rsp_word[16]` (R89). -/
def confField (w : Word32) : Bool := w.getLsbD 16

/-- `rsp_word[31:17]`, always 0 (R89). -/
def zeroField (w : Word32) : BitVec 15 := w.extractLsb' 17 15

end Sys2Proof.Machine
end

