-- ==== Sys2Proof/Machine/Ops.lean ====
section
/-! DEFINITION. The named operations on the state: the cipher primitive `E` (R57), ending a command with a response or an
error (R89, R180), and the writes of the engine's registers. -/

namespace Sys2Proof.Machine

/-- The wrapper's answer on `enc_rsp_data` to a request (R57), a function of the requested block under the current cipher
and key (R8; log entry 4). -/
def Cipher.encrypt (c : Cipher) (b : Block) : Block :=
  match c.known.lookup b with
  | some answer => answer
  | none => Config.blockCipher c.key b

/-- `E(b)` for a block of `bs` bytes (R57): request lanes from `bs` on are 0, and so are ignored in the answer. -/
def State.cipherE (s : State) (bs : Nat) (b : List Byte) : List Byte :=
  (blockBytes (s.wrapper.cipher.encrypt (blockOfBytes b))).take bs

/-- BS_REG as a count of bytes (R144). -/
def State.bs (s : State) : Nat := s.bsReg.toNat

/-- `take(bs, X)`, the chaining value (R26). -/
def State.chain (s : State) : List Byte := (blockBytes s.x).take s.bs

/-- `take(PLEN, PB)`, the pending bytes (R27). -/
def State.pending (s : State) : List Byte := (blockBytes s.pb).take s.plen.toNat

/-- `respond(status, count, tag)` (R89): load RSP_WORD, with CONF evaluated after the command's writes, and RSP_TAG, and
move PHASE to RESPOND (R52); the command has no cipher request left. -/
def State.respond (status : Status) (count : Byte) (tag : Block) (s : State) : State :=
  { s with rspWord := responseWord status count s.configured, rspTag := tag, phase := .respond, enc := .start }

/-- `raise S` (R180): end the command with an error status, its COUNT (R181) and an all-zero tag. There is no trap entry
(R190): nothing is saved, no mode changes, and nothing has to be undone to go on. -/
def State.raise (status : Status) (count : Byte) (s : State) : State := s.respond status count 0

/-- `ZEROIZE()` (R106): no engine instance exists afterwards. MSGLEN counts from the last successful INIT or RESET (R33), so
it stays. -/
def State.zeroize (s : State) : State :=
  { s with configured := false, bsReg := 0, k1 := 0, k2 := 0, x := 0, pb := 0, plen := 0 }

/-- `X <- 0^16 ; PB <- 0^16 ; PLEN <- 0`: the empty message of INIT and RESET (R106, R136). -/
def State.clearMessage (s : State) : State := { s with x := 0, pb := 0, plen := 0, msgLen := 0 }

/-- A successful INIT's writes (R106): the new instance's block size and subkeys, and an empty message. -/
def State.configure (bs : BlockSize) (k1v k2v : List Byte) (s : State) : State :=
  { s.clearMessage with
    configured := true, bsReg := BitVec.ofNat 8 (blockLen bs), k1 := blockOfBytes k1v, k2 := blockOfBytes k2v }

/-- `X <- v ++ 0^(16 - len(v))`. -/
def State.setChain (v : List Byte) (s : State) : State := { s with x := blockOfBytes v }

/-- `PB <- c ++ 0^(16 - len(c)) ; PLEN <- len(c)` (R131). -/
def State.setPending (c : List Byte) (s : State) : State :=
  { s with pb := blockOfBytes c, plen := BitVec.ofNat 5 c.length }

/-- MSGLEN grows by the bytes of an accepted beat (R33). -/
def State.countMessage (k : Nat) (s : State) : State := { s with msgLen := s.msgLen + k }

/-- Hardware reset (R210): every register takes its reset value; the agents outside the core stay. -/
def State.hardReset (s : State) : State := { State.reset with wrapper := s.wrapper, edges := s.edges }

/-- INIT's samples of the wrapper pins end with INIT: the core keeps only BS_REG (R37). -/
def State.dropSamples (s : State) : State := { s with smpBs := 0, smpErr := false, smpErrCode := 0 }

/-- PHASE <- `p`. -/
def State.setPhase (p : Phase) (s : State) : State := { s with phase := p }

/-- The cipher request moves to stage `e` (R56). -/
def State.setEnc (e : EncStage) (s : State) : State := { s with enc := e }

/-- The platform's change of the wrapper, if any (R60, R218; log entry 19). -/
def State.rewire (w : Option Wrapper) (s : State) : State := { s with wrapper := w.getD s.wrapper }

/-- The coming edges' input pins become `l`. -/
def State.setEdges (l : List Edge) (s : State) : State := { s with edges := l }

end Sys2Proof.Machine
end

