-- ==== Sys2Proof/Machine/Operands.lean ====
section
/-! DEFINITION. The operand forms: WRITE's count and data lanes (R82, R84), and the wrapper pins that INIT reads (R106).
No command names a register or an address (R20, R50). -/

namespace Sys2Proof.Machine

/-- The commands that read the wrapper pins: INIT alone (R37, R55); INFO reports BS_REG and samples none (R137). -/
def readsWrapper : Instr → Bool
  | .init => true
  | .write _ => false
  | .finalize => false
  | .reset => false
  | .info => false

/-- Does the command that this word spells sample the wrapper pins? An illegal word executes nothing (R86). -/
def wordReadsWrapper (word : Word32) : Bool :=
  match decode word with
  | .ok i => readsWrapper i
  | .error _ => false

/-- The accepting edge (R52): the command and its data are sampled and PHASE becomes BUSY. For INIT the wrapper pins are
sampled too (R106, R37; log entry 7), `cipher_err_code` only with `cipher_err` = 1 (R55). -/
def State.sample (word : Word32) (data : Block) (s : State) : State :=
  { s with
    cmdWord := word, cmdData := data, phase := .busy, enc := .start
    smpBs := if wordReadsWrapper word then s.wrapper.cipherBs else s.smpBs
    smpErr := if wordReadsWrapper word then s.wrapper.cipherErr else s.smpErr
    smpErrCode := if wordReadsWrapper word && s.wrapper.cipherErr then s.wrapper.cipherErrCode else s.smpErrCode }

/-- WRITE's message bytes: `cmd_data` lanes 0..LEN-1 in that order; lanes LEN..15 are ignored (R54, R84). -/
def State.writeData (len : Nat) (s : State) : List Byte := (blockBytes s.cmdData).take len

/-- The block size that INIT sampled, none where it is neither 8 nor 16 (R106, R107). -/
def State.sampledBlockSize (s : State) : Option BlockSize := toBlockSize s.smpBs

end Sys2Proof.Machine
end

