-- ==== Sys2Proof/Machine/SubkeyGenerator.lean ====
section
/-! DEFINITION. CMAC_subkey_generator (spec/40_subkey_generator.md): the GF(2^n) doubler and the one command that runs it,
INIT. -/

namespace Sys2Proof.Machine

/-- `Rb(BS)` (R7, R100). -/
def rb : BlockSize → Byte
  | .b8 => 0x1B
  | .b16 => 0x87

/-- `mask8(c) = (0x00 - zext_8(c)) mod 256` (R13). -/
def mask8 (c : BitVec 1) : Byte := 0x00 - c.setWidth 8

/-- `select8(c, a, b) = (a & mask8(c)) | (b & ~mask8(c))` (R13), a selection without a branch (R104). -/
def select8 (c : BitVec 1) (a b : Byte) : Byte := (a &&& mask8 c) ||| (b &&& ~~~(mask8 c))

/-- `SHIFT1` (R101): one bit to the left across the whole sequence; each byte's low bit is the high bit of the next byte,
and the last byte's low bit is 0. -/
def shift1 : List Byte → List Byte
  | [] => []
  | [b] => [b <<< 1]
  | b :: c :: rest => ((b <<< 1) ||| (c >>> 7)) :: shift1 (c :: rest)

/-- XOR a byte into the last byte of a sequence. -/
def xorLast (m : Byte) : List Byte → List Byte
  | [] => []
  | [b] => [b ^^^ m]
  | b :: c :: rest => b :: xorLast m (c :: rest)

/-- `v[0] >> 7`, the most significant bit of a block (R11, R102). -/
def msb (v : List Byte) : BitVec 1 := (v.headD 0).extractLsb' 7 1

/-- `DOUBLE(v, bs)` (R103): the shift, then Rb or 0 into the last byte, chosen by the most significant bit of the original
`v` (R102). -/
def double (bs : BlockSize) (v : List Byte) : List Byte := xorLast (select8 (msb v) (rb bs) 0x00) (shift1 v)

/-- `L = E(0^bs)` (R105), not kept after INIT (R31). -/
def State.initL (bs : BlockSize) (s : State) : List Byte :=
  s.cipherE (blockLen bs) (zeros (blockLen bs))

/-- `DERIVE(bs)` (R105): K1 and K2. -/
def State.derive (bs : BlockSize) (s : State) : List Byte × List Byte :=
  let k1v := double bs (s.initL bs)
  (k1v, double bs k1v)

/-- INIT (R106): legal in every state; a wrapper error comes before a bad block size (R188). The samples it reads
end with it (R37). -/
def execInit (s : State) : Host.Outcome State Fault Refusal :=
  .next <|
    if s.smpErr then s.dropSamples.zeroize.raise .cipherConstructionError s.smpErrCode
    else
      match s.sampledBlockSize with
      | none => s.dropSamples.zeroize.raise .invalidBlockSize 0
      | some bs => (s.dropSamples.configure bs (s.derive bs).1 (s.derive bs).2).respond .ok 0 0

end Sys2Proof.Machine
end

