-- ==== Sys2Proof/Machine/MacEngine.lean ====
section
/-! DEFINITION. CMAC_engine (spec/41_mac_engine.md): the CBC-chain accumulator, the pending-buffer manager, the
finalization-padding selector, and the commands WRITE, FINALIZE, RESET and INFO. -/

namespace Sys2Proof.Machine

/-- The block that processing `blk` sends to the cipher: `take(bs, X) ^ blk` (R130). -/
def State.chainInput (blk : List Byte) (s : State) : List Byte := xorBytes s.chain blk

/-- `ACCUMULATE(blk)` (R130). -/
def State.accumulate (blk : List Byte) (s : State) : State := s.setChain (s.cipherE s.bs (s.chainInput blk))

/-- `take(PLEN, PB) ++ data` (R131). -/
def State.buffered (data : List Byte) (s : State) : List Byte := s.pending ++ data

/-- `APPEND_DRAIN(data)` (R131): a block is processed only when strictly more than one is buffered (R132). -/
def State.appendDrain (data : List Byte) (s : State) : State :=
  let c := s.buffered data
  if c.length > s.bs then (s.accumulate (c.take s.bs)).setPending (c.drop s.bs) else s.setPending c

/-- The pending bytes, one 0x80 byte, then zeros up to a block (R133). -/
def State.padded (s : State) : List Byte := s.pending ++ [0x80] ++ zeros (s.bs - s.plen.toNat - 1)

/-- `PAD_SELECT()` (R133): a complete last block goes with K1, a padded one with K2. -/
def State.padSelect (s : State) : List Byte :=
  if s.plen.toNat = s.bs then xorBytes ((blockBytes s.pb).take s.bs) ((blockBytes s.k1).take s.bs)
  else xorBytes s.padded ((blockBytes s.k2).take s.bs)

/-- The block FINALIZE sends to the cipher: `last ^ take(bs, X)` (R135). -/
def State.finalInput (s : State) : List Byte := xorBytes s.padSelect s.chain

/-- WRITE (R134). -/
def execWrite (len : Nat) (s : State) : Host.Outcome State Fault Refusal :=
  .next <|
    if s.configured = false then s.raise .notConfigured 0
    else if len > s.bs then s.raise .illegalLength 0
    else ((s.appendDrain (s.writeData len)).countMessage len).respond .ok (BitVec.ofNat 8 len) 0

/-- FINALIZE (R135): no engine register is written (R138). -/
def execFinalize (s : State) : Host.Outcome State Fault Refusal :=
  .next <|
    if s.configured = false then s.raise .notConfigured 0
    else s.respond .ok 0 (blockOfBytes (s.cipherE s.bs s.finalInput))

/-- RESET (R136): K1, K2 and BS_REG stay. -/
def execReset (s : State) : Host.Outcome State Fault Refusal :=
  .next <|
    if s.configured = false then s.raise .notConfigured 0
    else s.clearMessage.respond .ok 0 0

/-- INFO (R137): COUNT = BS_REG, which is 0 while no instance exists. -/
def execInfo (s : State) : Host.Outcome State Fault Refusal := .next (s.respond .ok s.bsReg 0)

end Sys2Proof.Machine
end

