-- ==== Sys2Proof/Machine/Dispatch.lean ====
section
/-! DEFINITION. One arm per command. -/

namespace Sys2Proof.Machine

def exec (i : Instr) (s : State) : Host.Outcome State Fault Refusal :=
  match i with
  | .init => Sys2Proof.Machine.execInit s
  | .write len => Sys2Proof.Machine.execWrite len s
  | .finalize => Sys2Proof.Machine.execFinalize s
  | .reset => Sys2Proof.Machine.execReset s
  | .info => Sys2Proof.Machine.execInfo s

end Sys2Proof.Machine
end

