-- ==== Sys2Proof/Machine/Ports.lean ====
section
/-! DEFINITION. The ports at one rising edge of `clk`: hardware reset (R210, R212), the command and response handshake
(R52), the cipher handshake (R56), changes of the wrapper (R60), and the output pins (R51, R55). -/

namespace Sys2Proof.Machine

/-- The pins when no input is listed: no reset, no command, nothing taken, nothing answered (log entry 3). -/
def Edge.quiet : Edge :=
  { rstN := true, cmdValid := false, cmdWord := 0, cmdData := 0, rspReady := false, encReqReady := false,
    encRspValid := false, coreDone := false, rewire := none }

/-- The input pins at the next rising edge. -/
def State.nextEdge (s : State) : Edge := s.edges.headD Edge.quiet

/-- The state with the next rising edge's pins used up. -/
def State.popEdge (s : State) : State := s.setEdges s.edges.tail

/-- The cipher request that a command makes in a state: none, or exactly one block of the block size (R58). -/
def commandRequest (i : Instr) (s : State) : Option (List Byte) :=
  match i with
  | .init =>
    if s.smpErr then none
    else
      match s.sampledBlockSize with
      | none => none
      | some bs => some (zeros (blockLen bs))
  | .write len =>
    if s.configured = false ∨ len > s.bs then none
    else
      let c := s.buffered (s.writeData len)
      if c.length > s.bs then some (s.chainInput (c.take s.bs)) else none
  | .finalize => if s.configured = false then none else some s.finalInput
  | .reset => none
  | .info => none

/-- `enc_req_data` for the command in progress (R57): its block, lanes from the block size on 0; an illegal word makes no
request (R58). -/
def State.request (s : State) : Option Block :=
  match decode s.cmdWord with
  | .ok i => (commandRequest i s).map blockOfBytes
  | .error _ => none

/-- The sampled command runs as one atomic transition (R14, R62): its pseudocode, or ILLEGAL_COMMAND for a word that does
not decode (R86, R182), which is checked before anything else (R188). -/
def runCommand (s : State) : Host.Outcome State Fault Refusal :=
  match decode s.cmdWord with
  | .ok i => exec i s
  | .error _ => .next (s.raise .illegalCommand 0)

/-- The accepting edge (R52): sample the command and go BUSY. A request may be raised right after it (R223 asks only that
the response comes no earlier than the edge after the answer is taken). -/
def State.accept (e : Edge) (s : State) : State :=
  let t := s.sample e.cmdWord e.cmdData
  if e.coreDone ∧ t.request.isSome then t.setEnc .request else t

/-- An edge while a command is in progress: the cipher handshake (R56), then the command's completion (R52). The wrapper
may hold off for ever (R59). -/
def State.busyEdge (e : Edge) (s : State) : Host.Outcome State Fault Refusal :=
  match s.enc with
  | .start =>
    if e.coreDone then
      match s.request with
      | some _ => .next (s.setEnc .request)
      | none => runCommand s
    else .next s
  | .request => .next (if e.encReqReady then s.setEnc .await else s)
  | .await => .next (if e.encRspValid then s.setEnc .done else s)
  | .done => if e.coreDone then runCommand s else .next s

/-- The platform changes the cipher, its key or `cipher_bs` while a command is in progress (R60). A change of `cipher_err`
or `cipher_err_code` alone is none of these. -/
def State.illegalRewire (w : Option Wrapper) (s : State) : Bool :=
  match w with
  | none => false
  | some v => s.phase == .busy && (v.cipher != s.wrapper.cipher || v.cipherBs != s.wrapper.cipherBs)

/-- One rising edge of `clk` with pins `e`. Hardware reset wins over everything (R192, R212). -/
def clockEdge (e : Edge) (s : State) : Host.Outcome State Fault Refusal :=
  if e.rstN = false then .next (s.rewire e.rewire).hardReset
  else if s.illegalRewire e.rewire then .refused .cipherChangedWhileBusy
  else
    let t := s.rewire e.rewire
    match t.phase with
    | .idle => .next (if e.cmdValid then t.accept e else t)
    | .busy => t.busyEdge e
    | .respond => .next (if e.rspReady then t.setPhase .idle else t)

/-- The output pins (R51, R55). A bus whose value means nothing (R216, I11) shows none
(log entry 13). -/
structure Outputs where
  cmdReady    : Bool
  rspValid    : Bool
  rspWord     : Option Word32
  rspTag      : Option Block
  encReqValid : Bool
  encReqData  : Option Block
  encRspReady : Bool
  deriving DecidableEq, Repr

/-- What the core drives before its next rising edge. While `rst_n` = 0 every valid and ready output is 0 (R210; log
entry 16). -/
def State.outputs (s : State) : Outputs :=
  let on := s.nextEdge.rstN
  let presenting := on && s.phase == .respond
  let requesting := on && s.phase == .busy && s.enc == .request
  { cmdReady := on && s.phase == .idle
    rspValid := presenting
    rspWord := if presenting then some s.rspWord else none
    rspTag := if presenting then some s.rspTag else none
    encReqValid := requesting
    encReqData := if requesting then s.request else none
    encRspReady := on && s.phase == .busy && s.enc == .await }

/-- An edge at which the command in progress, all its cipher answers taken, completes. -/
def Edge.finish : Edge := { Edge.quiet with coreDone := true }

/-- A command accepted, every cipher answer it needs taken, and the edge that completes it next: what stands between the
command port and the running of `word` is done. -/
def State.withCommand (word : Word32) (s : State) : State :=
  ((s.sample word s.cmdData).setEnc .done).setEdges (Edge.finish :: s.edges)

end Sys2Proof.Machine
end

