-- ==== Sys2Proof/Machine/Step.lean ====
section
/-! DEFINITION. The step: one rising edge of `clk` (R51: "every transfer and state change happens at a rising edge"). -/

namespace Sys2Proof.Machine

/-- One rising edge with the next listed input pins. -/
def step (s : State) : Host.Outcome State Fault Refusal := clockEdge s.nextEdge s.popEdge

/-- The state in which the very next step runs the command whose bits are `w` (log entry 11): the core has accepted it at
its command port, and the coming edge completes it. Every command is one 32-bit word (R87); bits above `nbits` are 0. -/
def State.withFetchWord (s : State) (nbits w : Nat) : State := s.withCommand (BitVec.ofNat 32 (w % 2 ^ nbits))

end Sys2Proof.Machine
end

