-- ==== Sys2Proof/Machine/Assembler.lean ====
section
/-! DEFINITION. The host's notation for commands (R92) and its macros (R93). The core never sees this text: a line stands
for what the host puts on `cmd_word` and `cmd_data`. -/

namespace Sys2Proof.Machine

/-- One line of a host program (R92). -/
inductive Line where
  | init
  | write (bytes : List Byte)
  | finalize
  | reset
  | info
  | raw (word : Word32) (data : Block)
  deriving DecidableEq, Repr

/-- The command word and the data lanes of a line (R92); WRITE carries 0 to 16 bytes. -/
def Line.command : Line → Word32 × Block
  | .init => (encode .init, 0)
  | .write bytes => (encode (.write bytes.length), blockOfBytes bytes)
  | .finalize => (encode .finalize, 0)
  | .reset => (encode .reset, 0)
  | .info => (encode .info, 0)
  | .raw word data => (word, data)

/-- A message cut into beats of `n` bytes, the last one shorter where need be; `fuel` bounds the number of beats. -/
def cutBeats (n : Nat) : Nat → List Byte → List (List Byte)
  | 0, _ => []
  | fuel + 1, m => if m.isEmpty then [] else m.take n :: cutBeats n fuel (m.drop n)

/-- The beats of `WRITEMSG <m>` for blocks of `n` bytes (R93). -/
def messageBeats (n : Nat) (m : List Byte) : List (List Byte) := cutBeats n m.length m

/-- `WRITEMSG <m>` (R93). -/
def Line.writeMsg (n : Nat) (m : List Byte) : List Line := (messageBeats n m).map .write

/-- `MAC <m>` (R93). -/
def Line.mac (n : Nat) (m : List Byte) : List Line := .reset :: (Line.writeMsg n m ++ [.finalize])

end Sys2Proof.Machine
end

