-- ==== Sys2Proof/Safety.lean ====
section
/-! DEFINITION. The terms that claims are made in: the invariants of R34, R89 and R139, whole commands and host programs, the
observation of a run (D34), the CMAC of a message written without the engine (R139 to R141), and what of a state is
public (R224). -/

namespace Sys2Proof.Machine

/-- Lanes `n` to 15 are 0. -/
abbrev zeroFrom (n : Nat) (b : Block) : Prop := ∀ i, i < 16 → n ≤ i → lane b i = 0

/-- R34, items 1 to 3 and its last sentence. -/
def State.EngineInv (s : State) : Prop :=
  (s.configured = true →
    (s.bsReg = 8 ∨ s.bsReg = 16) ∧ s.plen.toNat ≤ s.bs ∧
    zeroFrom s.bs s.k1 ∧ zeroFrom s.bs s.k2 ∧ zeroFrom s.bs s.x ∧ zeroFrom s.plen.toNat s.pb) ∧
  (s.configured = false → s.bsReg = 0 ∧ s.plen = 0 ∧ s.k1 = 0 ∧ s.k2 = 0 ∧ s.x = 0 ∧ s.pb = 0)

/-- RSP_WORD and RSP_TAG keep the form of R89 and R91: CONF is CONFIGURED, the top bits are 0, and a tag is there only with
STATUS OK and in lanes below BS_REG. -/
def State.ResponseInv (s : State) : Prop :=
  zeroField s.rspWord = 0 ∧ confField s.rspWord = s.configured ∧
  (∃ st : Status, statusField s.rspWord = st.code) ∧
  (statusField s.rspWord ≠ Status.ok.code → s.rspTag = 0) ∧ zeroFrom s.bs s.rspTag

/-- A cipher request stands only in a command in progress that makes one (R56, R58). -/
def State.HandshakeInv (s : State) : Prop :=
  (s.phase ≠ .busy → s.enc = .start) ∧ (s.enc = .request ∨ s.enc = .await → s.request.isSome = true)

/-- The samples of the wrapper pins are there only while an INIT is in progress, and the code only with an error (R37, R55). -/
def State.SampleInv (s : State) : Prop :=
  (¬(s.phase = .busy ∧ wordReadsWrapper s.cmdWord = true) → s.smpBs = 0 ∧ s.smpErr = false) ∧
  (s.smpErr = false → s.smpErrCode = 0)

/-- PLEN as a function of MSGLEN (R139), and no block processed while at most one was written. -/
def State.LengthInv (s : State) : Prop :=
  s.configured = true →
    s.plen.toNat = (if s.msgLen = 0 then 0 else (s.msgLen - 1) % s.bs + 1) ∧ (s.msgLen ≤ s.bs → s.x = 0)

/-- The invariant that every step keeps. -/
def State.Inv (s : State) : Prop := s.EngineInv ∧ s.ResponseInv ∧ s.HandshakeInv ∧ s.SampleInv

/-- A whole command as one atomic transition (R14, R62): the core samples it and runs it. The response stays presented. -/
def issue (c : Word32 × Block) (s : State) : Host.Outcome State Fault Refusal := runCommand (s.sample c.1 c.2)

/-- The state with nothing but its response port changed: RSP_WORD and RSP_TAG loaded, PHASE RESPOND, and no cipher request
left. -/
def State.answered (word : Word32) (tag : Block) (s : State) : State :=
  { s with rspWord := word, rspTag := tag, phase := .respond, enc := .start }

/-- The state with no engine instance in it (R106, R187). -/
def State.unconfigured (s : State) : State :=
  { s with configured := false, bsReg := 0, k1 := 0, k2 := 0, x := 0, pb := 0, plen := 0 }

/-- The state with the samples of the wrapper's pins taken from `t`: what a statement says that leaves them to another. -/
def State.withSamplesOf (s t : State) : State :=
  { s with smpBs := t.smpBs, smpErr := t.smpErr, smpErrCode := t.smpErrCode }

/-- The state with other values on the wrapper's pins `cipher_bs`, `cipher_err` and `cipher_err_code`. -/
def State.withPins (bs : Byte) (err : Bool) (code : Byte) (s : State) : State :=
  { s with wrapper := { s.wrapper with cipherBs := bs, cipherErr := err, cipherErrCode := code } }

/-- The illegal command words, as R86 lists them. -/
def illegalWord (w : Word32) : Prop :=
  (w.extractLsb' 0 8 = 0 ∨ 6 ≤ (w.extractLsb' 0 8).toNat) ∨ w.extractLsb' 16 16 ≠ 0 ∨
  ((w.extractLsb' 0 8 = 1 ∨ w.extractLsb' 0 8 = 3 ∨ w.extractLsb' 0 8 = 4 ∨ w.extractLsb' 0 8 = 5) ∧
    w.extractLsb' 8 8 ≠ 0)

/-- The host's commands in acceptance order (R62), each to completion. -/
def issueAll : List (Word32 × Block) → State → Host.Outcome State Fault Refusal
  | [], s => .next s
  | c :: cs, s =>
    match issue c s with
    | .next t => issueAll cs t
    | .fault r => .fault r
    | .refused r => .refused r

/-- `k` rising edges. -/
def runEdges : Nat → State → Host.Outcome State Fault Refusal
  | 0, s => .next s
  | k + 1, s =>
    match step s with
    | .next t => runEdges k t
    | .fault r => .fault r
    | .refused r => .refused r

/-- Pins with which nobody holds anything up. -/
def Edge.ready : Edge :=
  { Edge.quiet with rspReady := true, encReqReady := true, encRspValid := true, coreDone := true }

/-- Five rising edges that take one command from its presentation to the taking of its response, when nobody holds anything
up: the accepting edge, the cipher's two edges, the completing edge and the edge that takes the response (a command without
a cipher request is through earlier and stays IDLE). -/
def commandEdges (c : Word32 × Block) : List Edge :=
  { Edge.ready with cmdValid := true, cmdWord := c.1, cmdData := c.2 } ::
    [Edge.ready, Edge.ready, Edge.ready, Edge.ready]

/-- What the host learns from one command (D34). -/
structure Response where
  status : Byte
  count  : Byte
  conf   : Bool
  tag    : Block
  deriving DecidableEq, Repr

/-- What `rsp_word` and `rsp_tag` tell the host (R89, R91). -/
def responseOf (word : Word32) (tag : Block) : Response :=
  { status := statusField word, count := countField word, conf := confField word, tag := tag }

/-- What the response registers, which drive those pins (R30), tell the host. -/
def State.response (s : State) : Response := responseOf s.rspWord s.rspTag

/-- The responses of the host's commands, one each, in acceptance order. -/
def issueResponses : List (Word32 × Block) → State → List Response
  | [], _ => []
  | c :: cs, s =>
    match issue c s with
    | .next t => t.response :: issueResponses cs t
    | .fault _ => []
    | .refused _ => []

/-- The response the host takes from the pins at the next edge, if it takes one (R52). -/
def State.taken (s : State) : Option Response :=
  if s.outputs.rspValid ∧ s.nextEdge.rspReady then
    s.outputs.rspWord.bind fun word => s.outputs.rspTag.map (responseOf word)
  else none

/-- The responses taken in `k` steps, in order: the observation of a run (D34). -/
def observe : Nat → State → List Response
  | 0, _ => []
  | k + 1, s =>
    s.taken.toList ++
      match step s with
      | .next t => observe k t
      | .fault _ => []
      | .refused _ => []

/-- The block that the cipher wrapper takes at the next edge, if it takes one (R56). -/
def State.requestTransfer (s : State) : Option Block :=
  if s.outputs.encReqValid ∧ s.nextEdge.encReqReady then s.outputs.encReqData else none

/-- Does the core take an answer of the cipher wrapper at the next edge (R56)? -/
def State.answerTransfer (s : State) : Bool := s.outputs.encRspReady && s.nextEdge.encRspValid

/-- The blocks that the cipher wrapper takes in `k` steps, in order. -/
def requestsSent : Nat → State → List Block
  | 0, _ => []
  | k + 1, s =>
    s.requestTransfer.toList ++
      match step s with
      | .next t => requestsSent k t
      | .fault _ => []
      | .refused _ => []

/-- How many answers the core takes in `k` steps. -/
def answersTaken : Nat → State → Nat
  | 0, _ => 0
  | k + 1, s =>
    (if s.answerTransfer then 1 else 0) +
      match step s with
      | .next t => answersTaken k t
      | .fault _ => 0
      | .refused _ => 0

/-- In the first `k` steps the command in progress runs on: every state before the last is BUSY and is not being reset. -/
def staysBusy : Nat → State → Prop
  | 0, _ => True
  | k + 1, s => s.phase = .busy ∧ s.nextEdge.rstN = true ∧ ∀ t, step s = .next t → staysBusy k t

/-- A run has ended (D34): no command is outstanding and none will come. A command that is still BUSY has not ended. -/
def State.ended (s : State) : Prop := s.phase = .idle ∧ ∀ e ∈ s.edges, e.cmdValid = false

/-- How many blocks of a message of `t` bytes are processed before FINALIZE (R139). -/
def processedBlocks (bs t : Nat) : Nat := (t - 1) / bs

/-- `C_j` of R140: the chaining value after the first `j` blocks of `m`. -/
def chainValue (E : List Byte → List Byte) (bs : Nat) (m : List Byte) : Nat → List Byte
  | 0 => zeros bs
  | j + 1 => E (xorBytes (chainValue E bs m j) ((m.drop (j * bs)).take bs))

/-- The bytes of `m` that are pending before FINALIZE (R140). -/
def messageRest (bs : Nat) (m : List Byte) : List Byte := m.drop (processedBlocks bs m.length * bs)

/-- The last block before the final encryption (R133). -/
def lastBlock (bs : Nat) (k1 k2 rest : List Byte) : List Byte :=
  if rest.length = bs then xorBytes rest k1
  else xorBytes (rest ++ [0x80] ++ zeros (bs - rest.length - 1)) k2

/-- The tag of `m` under the cipher function `E` and the subkeys `k1` and `k2` (R141). -/
def tagOf (E : List Byte → List Byte) (bs : Nat) (k1 k2 m : List Byte) : List Byte :=
  E (xorBytes (lastBlock bs k1 k2 (messageRest bs m)) (chainValue E bs m (processedBlocks bs m.length)))

/-- The CMAC of `m` under the cipher function `E` (R105, R141). -/
def cmac (E : List Byte → List Byte) (b : BlockSize) (m : List Byte) : List Byte :=
  let k1 := double b (E (zeros (blockLen b)))
  tagOf E (blockLen b) k1 (double b k1) m

/-- The wrapper without its cipher. -/
def Wrapper.publicView (w : Wrapper) : Wrapper := { w with cipher := Wrapper.blank.cipher }

/-- The pins without the message bytes. -/
def Edge.publicView (e : Edge) : Edge := { e with cmdData := 0, rewire := e.rewire.map Wrapper.publicView }

/-- A state with everything blanked that timing and response words must not depend on (R224): the message bytes, K1, K2,
X, the cipher, and the tag, which depends on them. -/
def State.publicView (s : State) : State :=
  { s with
    k1 := 0, k2 := 0, x := 0, pb := 0, rspTag := 0, cmdData := 0, wrapper := s.wrapper.publicView,
    edges := s.edges.map Edge.publicView }

/-- A state with another cipher in its wrapper. -/
def State.withCipher (c : Cipher) (s : State) : State := { s with wrapper := { s.wrapper with cipher := c } }

end Sys2Proof.Machine
end

