-- ==== Sys2Proof/Certificates/Slice0/Obligations.lean ====
section
/-! DEFINITION. The statements for the provers, from the numbered rules of spec/. Where one speaks of a command's next state
it gives the whole state, so what the command leaves unchanged is part of it. -/

open Sys2Proof Sys2Proof.Machine

/-! ## Encoding -/

/-- Decoding the word of a well-formed command gives the command back (R85, R88). -/
def Obligations.DecodeOfEncode : Prop :=
  ∀ i : Instr, i.wellFormed = true → decode (encode i) = .ok i

/-- A word that decodes is the word of the command it decodes to, and that command is well-formed (R85, R88). -/
def Obligations.EncodeOfDecode : Prop :=
  ∀ (w : Word32) (i : Instr), decode w = .ok i → encode i = w ∧ i.wellFormed = true

/-- The opcode map (R85): the words it writes out, WRITE for every LEN, and the reserved opcodes. -/
def Obligations.OpcodeMap : Prop :=
  decode 0x00000001 = .ok .init ∧
  (∀ k, k < 256 → decode (0x00000002 ||| BitVec.ofNat 32 k <<< 8) = .ok (.write k)) ∧
  decode 0x00000003 = .ok .finalize ∧ decode 0x00000004 = .ok .reset ∧ decode 0x00000005 = .ok .info ∧
  ∀ op, op = 0 ∨ (6 ≤ op ∧ op < 256) → ∃ e, decode (BitVec.ofNat 32 op) = .error e

/-- A few command words written out from R80 and R85, V-DEC-1 to V-DEC-15. -/
def Obligations.CommandWordsDecode : Prop :=
  decode 0x00000001 = .ok .init ∧ decode 0x00001002 = .ok (.write 16) ∧ decode 0x00000802 = .ok (.write 8) ∧
  decode 0x0000ff02 = .ok (.write 255) ∧ decode 0x00000003 = .ok .finalize ∧ decode 0x00000004 = .ok .reset ∧
  decode 0x00000005 = .ok .info ∧ decode 0x00000000 = .error .reservedOpcode ∧
  decode 0x00000006 = .error .reservedOpcode ∧ decode 0x00010002 = .error .reservedBitsSet ∧
  decode 0x80000003 = .error .reservedBitsSet ∧ decode 0x00000805 = .error .lengthNotZero

/-- The words that do not decode are exactly those R86 lists. -/
def Obligations.IllegalWordsExactly : Prop :=
  ∀ w : Word32, (∃ e, decode w = .error e) ↔ illegalWord w

/-! ## A step runs the decoded command -/

/-- At an edge that completes the command in progress, the step is `exec` of the command the sampled word decodes to, with the
edge used up and the platform's change of the wrapper, if any, made (R14, R52; that the registers are written at this edge is
log entry 1). -/
def Obligations.StepRunsTheDecodedCommand : Prop :=
  ∀ (s : State) (i : Instr),
    s.phase = .busy → s.nextEdge.rstN = true → s.nextEdge.coreDone = true →
    s.illegalRewire s.nextEdge.rewire = false → (s.enc = .done ∨ (s.enc = .start ∧ s.request = none)) →
    decode s.cmdWord = .ok i →
    step s = exec i (s.popEdge.rewire s.nextEdge.rewire)

/-- A word of the opcode table put where the core runs its next command from: the next step is `exec` of the command it
decodes to. How the word gets there is the model's choice (log entry 11). -/
def Obligations.PlacedWordRunsNext : Prop :=
  ∀ (s : State) (nbits w : Nat) (i : Instr), decodeTableWord nbits w = some i →
    step (s.withFetchWord nbits w) =
      exec i { s with
        cmdWord := BitVec.ofNat 32 w, phase := .busy, enc := .done
        smpBs := if i = .init then s.wrapper.cipherBs else s.smpBs
        smpErr := if i = .init then s.wrapper.cipherErr else s.smpErr
        smpErrCode := if i = .init ∧ s.wrapper.cipherErr = true then s.wrapper.cipherErrCode else s.smpErrCode }

/-- An illegal word executes nothing (R182): in every state it changes the response port alone, with status 0x01, COUNT 0
and a zero tag. -/
def Obligations.IllegalWordAnswersIllegalCommand : Prop :=
  ∀ s : State, illegalWord s.cmdWord →
    runCommand s = .next (s.answered (responseWord .illegalCommand 0 s.configured) 0)

/-- A host program whose commands nobody holds up: five edges for each command bring the machine to where the commands, run
one after another as whole transitions, bring it, with the last response taken (R52, R62). The edges and their latency are
inputs (log entries 2 and 3); that RSP_WORD and RSP_TAG keep their values once the response is taken is the model's choice
(log entry 17). -/
def Obligations.ProgramsRunAsIssued : Prop :=
  ∀ (cs : List (Word32 × Block)) (s : State) (rest : List Edge),
    s.phase = .idle → s.edges = cs.flatMap commandEdges ++ rest →
    ∃ t, issueAll cs s = .next t ∧
      runEdges (5 * cs.length) s = .next { t with phase := .idle, edges := rest }

/-- Every accepted command produces exactly one response on the pins, in acceptance order, and it is the command's own (R52, R62),
for the same edges (log entries 2 and 3). -/
def Obligations.EveryCommandIsAnsweredOnce : Prop :=
  ∀ (cs : List (Word32 × Block)) (s : State) (rest : List Edge),
    s.phase = .idle → s.edges = cs.flatMap commandEdges ++ rest →
    observe (5 * cs.length) s = issueResponses cs s ∧ (issueResponses cs s).length = cs.length

/-! ## INIT and the doubler -/

/-- INIT with a cipher of 8 or 16 bytes (R105, R106): K1 and K2 from the first block-size bytes of the wrapper's answer to the
zero block (R57), the block size, an empty message, and status OK with CONF = 1; the samples end with the command (R37; log
entry 6), and everything else stays. -/
def Obligations.InitConstructsAnInstance : Prop :=
  ∀ (s : State) (b : BlockSize), s.smpErr = false → s.smpBs = BitVec.ofNat 8 (blockLen b) →
    let l := (blockBytes (s.wrapper.cipher.encrypt 0)).take (blockLen b)
    exec .init s =
      .next ({ s with
        configured := true, bsReg := s.smpBs, x := 0, pb := 0, plen := 0, msgLen := 0
        k1 := blockOfBytes (double b l)
        k2 := blockOfBytes (double b (double b l))
        smpBs := 0, smpErr := false, smpErrCode := 0 }.answered (responseWord .ok 0 true) 0)

/-- INIT with an unsupported block size (R107). What becomes of INIT's samples is SamplesEndWithInit. -/
def Obligations.InitRejectsOtherBlockSizes : Prop :=
  ∀ s : State, s.smpErr = false → s.smpBs ≠ 8 → s.smpBs ≠ 16 →
    commandRequest .init s = none ∧
    ∃ t, exec .init s = .next t ∧
      t = (s.unconfigured.answered (responseWord .invalidBlockSize 0 false) 0).withSamplesOf t

/-- INIT with `cipher_err` = 1 (R108). What becomes of INIT's samples is SamplesEndWithInit. -/
def Obligations.InitReportsCipherError : Prop :=
  ∀ s : State, s.smpErr = true →
    commandRequest .init s = none ∧
    ∃ t, exec .init s = .next t ∧
      t = (s.unconfigured.answered (responseWord .cipherConstructionError s.smpErrCode false) 0).withSamplesOf t

/-- INIT's samples of the wrapper's pins end with it, for the core keeps only BS_REG (R37), and no other command and no illegal
word touches them. That their fields are then 0 is log entry 6. -/
def Obligations.SamplesEndWithInit : Prop :=
  ∀ s t : State, runCommand s = .next t →
    (decode s.cmdWord = .ok .init → t.smpBs = 0 ∧ t.smpErr = false ∧ t.smpErrCode = 0) ∧
    (decode s.cmdWord ≠ .ok .init → t.smpBs = s.smpBs ∧ t.smpErr = s.smpErr ∧ t.smpErrCode = s.smpErrCode)

/-- DOUBLE on integers (R103): twice the block, cut to n bits, XOR Rb where the block's most significant bit, bit n - 1 of its
integer (R11), is 1. -/
def Obligations.DoubleOnIntegers : Prop :=
  ∀ (b : BlockSize) (v : List Byte), v.length = blockLen b →
    (double b v).length = blockLen b ∧
    bytesInt (double b v) =
      (2 * bytesInt v % 2 ^ (8 * blockLen b)) ^^^
        (bytesInt v / 2 ^ (8 * blockLen b - 1) * (match b with | .b16 => 0x87 | .b8 => 0x1B))

/-- K1, K2 and BS_REG are written only by INIT and by hardware reset (R109), over every step. That INIT writes them at the edge
that completes it is log entry 1. -/
def Obligations.SubkeysWrittenOnlyByInitOrReset : Prop :=
  ∀ s t : State, step s = .next t → ¬(t.k1 = s.k1 ∧ t.k2 = s.k2 ∧ t.bsReg = s.bsReg) →
    s.nextEdge.rstN = false ∨ (s.phase = .busy ∧ t.phase = .respond ∧ decode s.cmdWord = .ok .init)

/-- INIT and RESET are idempotent (R67): the same command again, under the same wrapper, leaves every register as it is. -/
def Obligations.InitAndResetAreIdempotent : Prop :=
  ∀ (c : Word32 × Block) (s t : State), decode c.1 = .ok .init ∨ decode c.1 = .ok .reset →
    issue c s = .next t → issue c t = .next t

/-! ## WRITE, FINALIZE, RESET, INFO -/

/-- WRITE that brings at most one block together holds it (R131, R132, R134): the bytes are appended to the pending ones and
nothing is processed. -/
def Obligations.WriteHoldsUpToOneBlock : Prop :=
  ∀ (s : State) (len : Nat), s.EngineInv → s.configured = true → s.plen.toNat + len ≤ s.bsReg.toNat →
    ∃ p : BitVec 5, p.toNat = s.plen.toNat + len ∧
      exec (.write len) s =
        .next ({ s with
          pb := blockOfBytes ((blockBytes s.pb).take s.plen.toNat ++ (blockBytes s.cmdData).take len)
          plen := p
          msgLen := s.msgLen + len }.answered (responseWord .ok (BitVec.ofNat 8 len) true) 0)

/-- WRITE that brings more than one block together processes exactly one (R130, R131, R134): the first block is chained into X
through the first BS_REG bytes of the wrapper's answer (R57), and the bytes after it stay pending. -/
def Obligations.WriteDrainsOneBlock : Prop :=
  ∀ (s : State) (len : Nat), s.EngineInv → s.configured = true → len ≤ s.bsReg.toNat →
    s.bsReg.toNat < s.plen.toNat + len →
    let bs := s.bsReg.toNat
    let c := (blockBytes s.pb).take s.plen.toNat ++ (blockBytes s.cmdData).take len
    ∃ p : BitVec 5, p.toNat = s.plen.toNat + len - bs ∧
      exec (.write len) s =
        .next ({ s with
          x := blockOfBytes ((blockBytes (s.wrapper.cipher.encrypt
            (blockOfBytes (xorBytes ((blockBytes s.x).take bs) (c.take bs))))).take bs)
          pb := blockOfBytes (c.drop bs)
          plen := p
          msgLen := s.msgLen + len }.answered (responseWord .ok (BitVec.ofNat 8 len) true) 0)

/-- WRITE longer than a block (R184): refused with ILLEGAL_LENGTH, no byte of the beat consumed. -/
def Obligations.LongWriteAnswersIllegalLength : Prop :=
  ∀ (s : State) (len : Nat), s.configured = true → s.bsReg.toNat < len →
    exec (.write len) s = .next (s.answered (responseWord .illegalLength 0 true) 0)

/-- WRITE, FINALIZE and RESET without an instance (R183). -/
def Obligations.NoInstanceAnswersNotConfigured : Prop :=
  ∀ (s : State) (i : Instr), s.configured = false → (∃ len, i = .write len) ∨ i = .finalize ∨ i = .reset →
    exec i s = .next (s.answered (responseWord .notConfigured 0 false) 0)

/-- Only the first LEN lanes of `cmd_data` reach a WRITE, and none reaches another command (R84). -/
def Obligations.UnusedDataLanesAreIgnored : Prop :=
  ∀ (i : Instr) (s t : State) (d : Block),
    (∀ len, i = .write len → ∀ k, k < len → k < 16 → lane d k = lane s.cmdData k) →
    exec i s = .next t → exec i { s with cmdData := d } = .next { t with cmdData := d }

/-- FINALIZE (R133, R135): a complete last block goes with K1, any other is padded with 0x80 and zeros and goes with K2; the
tag is the first BS_REG bytes of the wrapper's last answer (R57), and nothing but the response port changes. -/
def Obligations.FinalizeProducesTheTag : Prop :=
  ∀ s : State, s.EngineInv → s.configured = true →
    let bs := s.bsReg.toNat
    let pending := (blockBytes s.pb).take s.plen.toNat
    let x := (blockBytes s.x).take bs
    let answer := fun b : List Byte => (blockBytes (s.wrapper.cipher.encrypt (blockOfBytes b))).take bs
    (s.plen.toNat = bs →
      exec .finalize s =
        .next (s.answered (responseWord .ok 0 true)
          (blockOfBytes (answer (xorBytes (xorBytes pending ((blockBytes s.k1).take bs)) x))))) ∧
    (s.plen.toNat < bs →
      exec .finalize s =
        .next (s.answered (responseWord .ok 0 true)
          (blockOfBytes (answer
            (xorBytes
              (xorBytes (pending ++ [0x80] ++ List.replicate (bs - s.plen.toNat - 1) 0) ((blockBytes s.k2).take bs)) x)))))

/-- FINALIZE changes no engine register and may be repeated (R138): after any commands that are no INIT, WRITE or RESET, under
the same cipher, it gives the same response. -/
def Obligations.FinalizeMayBeRepeated : Prop :=
  ∀ (cs : List (Word32 × Block)) (s t u v : State),
    (∀ c ∈ cs, decode c.1 ≠ .ok .init ∧ decode c.1 ≠ .ok .reset ∧ ∀ len, decode c.1 ≠ .ok (.write len)) →
    exec .finalize s = .next t → issueAll cs t = .next u → exec .finalize u = .next v →
    t = s.answered t.rspWord t.rspTag ∧ v.rspWord = t.rspWord ∧ v.rspTag = t.rspTag

/-- RESET (R136): an empty message, the same instance and subkeys. -/
def Obligations.ResetEmptiesTheMessage : Prop :=
  ∀ s : State, s.configured = true →
    exec .reset s =
      .next ({ s with x := 0, pb := 0, plen := 0, msgLen := 0 }.answered (responseWord .ok 0 true) 0)

/-- INFO (R137): the block size of the instance, in every state; nothing but the response port changes. -/
def Obligations.InfoReportsTheBlockSize : Prop :=
  ∀ s : State, exec .info s = .next (s.answered (responseWord .ok s.bsReg s.configured) 0)

/-! ## Responses and errors -/

/-- The response word (R89): what `respond` loads, its fields, and that every command's response has them, CONF being
CONFIGURED after the command. -/
def Obligations.ResponseWordFields : Prop :=
  (∀ (st : Status) (count : Byte) (tag : Block) (s : State),
    (s.respond st count tag).rspWord =
      st.code.setWidth 32 ||| (count.setWidth 32 <<< 8) ||| (if s.configured = true then 0x00010000 else 0) ∧
    (s.respond st count tag).rspTag = tag) ∧
  (∀ (st : Status) (count : Byte) (conf : Bool),
    statusField (responseWord st count conf) = st.code ∧ countField (responseWord st count conf) = count ∧
    confField (responseWord st count conf) = conf ∧ zeroField (responseWord st count conf) = 0) ∧
  ∀ s t : State, runCommand s = .next t →
    ∃ (st : Status) (count : Byte), t.rspWord = responseWord st count t.configured

/-- COUNT of every response (R90). -/
def Obligations.CountPerCommand : Prop :=
  ∀ s t : State, runCommand s = .next t →
    countField t.rspWord =
      match decode s.cmdWord with
      | .ok (.write len) => if statusField t.rspWord = 0x00 then BitVec.ofNat 8 len else 0
      | .ok .info => s.bsReg
      | .ok .init => if statusField t.rspWord = 0x11 then s.smpErrCode else 0
      | .ok .finalize => 0
      | .ok .reset => 0
      | .error _ => 0

/-- STATUS of every response is the first that applies, in the order of R188. -/
def Obligations.StatusPriority : Prop :=
  ∀ s t : State, runCommand s = .next t →
    statusField t.rspWord =
      match decode s.cmdWord with
      | .error _ => 0x01
      | .ok .init => if s.smpErr = true then 0x11 else if s.smpBs ≠ 8 ∧ s.smpBs ≠ 16 then 0x10 else 0x00
      | .ok (.write len) =>
        if s.configured = false then 0x02 else if s.bsReg.toNat < len then 0x03 else 0x00
      | .ok .finalize => if s.configured = false then 0x02 else 0x00
      | .ok .reset => if s.configured = false then 0x02 else 0x00
      | .ok .info => 0x00

/-- What an error does to the state (R187): the first three statuses change the response port alone, the two construction
errors leave no instance, whatever existed before. What becomes of INIT's samples is SamplesEndWithInit. -/
def Obligations.ErrorEffects : Prop :=
  ∀ s t : State, runCommand s = .next t →
    (statusField t.rspWord = 0x01 ∨ statusField t.rspWord = 0x02 ∨ statusField t.rspWord = 0x03 →
      t = s.answered t.rspWord 0) ∧
    (statusField t.rspWord = 0x10 ∨ statusField t.rspWord = 0x11 →
      t = (s.unconfigured.answered t.rspWord 0).withSamplesOf t)

/-- `rsp_tag` carries a tag only in the response of a FINALIZE with status OK, and is all zero in every other (R221); what it
carries lies below BS_REG. -/
def Obligations.TagOnlyFromFinalize : Prop :=
  ∀ s t : State, runCommand s = .next t →
    zeroFrom t.bsReg.toNat t.rspTag ∧
    (¬(decode s.cmdWord = .ok .finalize ∧ statusField t.rspWord = 0x00) → t.rspTag = 0)

/-! ## Ports, cipher wrapper, hardware reset -/

/-- The order of PHASE (R29, R52) and the lower bounds of R223, at an edge without reset: a command that makes a cipher request
completes only after an edge that took its answer. When the core's own work is done is an input (log entry 2). -/
def Obligations.PhaseOrder : Prop :=
  ∀ s t : State, s.nextEdge.rstN = true → step s = .next t →
    (s.phase = .idle → t.phase = if s.nextEdge.cmdValid then .busy else .idle) ∧
    (s.phase = .busy → t.phase = .busy ∨
      (t.phase = .respond ∧ s.nextEdge.coreDone = true ∧ (s.enc = .done ∨ (s.enc = .start ∧ s.request = none)))) ∧
    (t.enc = .done → s.enc = .done ∨ (s.enc = .await ∧ s.nextEdge.encRspValid = true)) ∧
    (s.phase = .respond → t.phase = if s.nextEdge.rspReady then .idle else .respond)

/-- The accepting edge (R52): PHASE goes to BUSY with the command and its data sampled, and for INIT alone the wrapper's pins
(R37), the code only with an error (R55); no register of the engine and no response register changes. That the pins are
sampled at this edge, after a change of the wrapper at it, is the model's reading (log entries 7 and 19); that the response
registers keep their values here is its choice (log entry 17). -/
def Obligations.AcceptingEdge : Prop :=
  ∀ s : State, s.phase = .idle → s.nextEdge.rstN = true → s.nextEdge.cmdValid = true →
    ∃ (w : Wrapper) (e : EncStage), w = s.nextEdge.rewire.getD s.wrapper ∧ (e = .start ∨ e = .request) ∧
      step s = .next { s with
        phase := .busy, cmdWord := s.nextEdge.cmdWord, cmdData := s.nextEdge.cmdData
        smpBs := if decode s.nextEdge.cmdWord = .ok .init then w.cipherBs else s.smpBs
        smpErr := if decode s.nextEdge.cmdWord = .ok .init then w.cipherErr else s.smpErr
        smpErrCode :=
          if decode s.nextEdge.cmdWord = .ok .init ∧ w.cipherErr = true then w.cipherErrCode else s.smpErrCode
        enc := e, wrapper := w, edges := s.edges.tail }

/-- At an edge without reset that completes no command, no register of the engine and no response register changes (R14, R52,
R62; that a command's writes fall on one edge is log entry 1, and that the response registers keep their values outside
RESPOND, where R30 calls them not observable, is the model's choice, log entry 17), and at one that accepts none either the
sampled command, its data and the wrapper's sampled pins stay (R52, R216). -/
def Obligations.OnlyCompletionChangesRegisters : Prop :=
  ∀ s t : State, s.nextEdge.rstN = true → step s = .next t → ¬(s.phase = .busy ∧ t.phase = .respond) →
    t = { s with
      phase := t.phase, cmdWord := t.cmdWord, cmdData := t.cmdData, smpBs := t.smpBs, smpErr := t.smpErr,
      smpErrCode := t.smpErrCode, enc := t.enc, wrapper := t.wrapper, edges := s.edges.tail } ∧
    (¬(s.phase = .idle ∧ s.nextEdge.cmdValid = true) →
      t.cmdWord = s.cmdWord ∧ t.cmdData = s.cmdData ∧ t.smpBs = s.smpBs ∧ t.smpErr = s.smpErr ∧
      t.smpErrCode = s.smpErrCode)

/-- The output pins in every state (R30, R51, R55, R56, R210): each valid and ready output exactly where it is 1, and what the
buses then carry. That `rsp_valid` is 0 while `rst_n` = 0 whatever PHASE is, and that a bus without its valid shows nothing, is
the model's reading (log entries 16 and 13). -/
def Obligations.OutputPins : Prop :=
  ∀ s : State,
    (s.outputs.cmdReady = true ↔ s.nextEdge.rstN = true ∧ s.phase = .idle) ∧
    (s.outputs.rspValid = true ↔ s.nextEdge.rstN = true ∧ s.phase = .respond) ∧
    (s.outputs.encReqValid = true ↔ s.nextEdge.rstN = true ∧ s.phase = .busy ∧ s.enc = .request) ∧
    (s.outputs.encRspReady = true ↔ s.nextEdge.rstN = true ∧ s.phase = .busy ∧ s.enc = .await) ∧
    (s.outputs.rspValid = true → s.outputs.rspWord = some s.rspWord ∧ s.outputs.rspTag = some s.rspTag) ∧
    (s.outputs.rspValid = false → s.outputs.rspWord = none ∧ s.outputs.rspTag = none) ∧
    (s.outputs.encReqValid = true → s.outputs.encReqData = s.request) ∧
    (s.outputs.encReqValid = false → s.outputs.encReqData = none)

/-- `cmd_ready` is 1 exactly when PHASE = IDLE and `rst_n` = 1 (R51), and a command presented while it is 0 has no effect (R52):
the command pins of the next edge do not matter. -/
def Obligations.CommandsWaitForReady : Prop :=
  ∀ s : State,
    (s.outputs.cmdReady = true ↔ s.phase = .idle ∧ s.nextEdge.rstN = true) ∧
    ∀ (e : Edge) (rest : List Edge) (v : Bool) (w : Word32) (d : Block),
      s.edges = e :: rest → s.outputs.cmdReady = false →
      step { s with edges := { e with cmdValid := v, cmdWord := w, cmdData := d } :: rest } = step s

/-- The cipher handshake (R56) at an edge with any legal change of the wrapper: a command that needs the cipher raises its
request; the request and its data stand until the wrapper accepts it; the core then waits for the answer, takes it where it is
offered, and takes none it does not wait for. When the request is raised is an input (log entry 2); that the response registers
keep their values meanwhile is the model's choice (log entry 17). -/
def Obligations.CipherHandshake : Prop :=
  ∀ s : State, s.Inv → s.nextEdge.rstN = true → s.illegalRewire s.nextEdge.rewire = false →
    let w := s.nextEdge.rewire.getD s.wrapper
    (s.phase = .busy → s.enc = .start → ∀ b, s.request = some b →
      step s = .next { s with
        enc := if s.nextEdge.coreDone then .request else .start, wrapper := w, edges := s.edges.tail }) ∧
    (s.outputs.encReqValid = true →
      s.outputs.encReqData = s.request ∧ s.request.isSome = true ∧
      step s = .next { s with
        enc := if s.nextEdge.encReqReady then .await else .request, wrapper := w, edges := s.edges.tail }) ∧
    (s.outputs.encRspReady = true →
      step s = .next { s with
        enc := if s.nextEdge.encRspValid then .done else .await, wrapper := w, edges := s.edges.tail }) ∧
    (∀ g : EncStage, ({ s with enc := g, wrapper := w, edges := s.edges.tail } : State).request = s.request) ∧
    (s.outputs.encRspReady = false →
      ∀ (e : Edge) (rest : List Edge) (v : Bool), s.edges = e :: rest →
        step { s with edges := { e with encRspValid := v } :: rest } = step s)

/-- The stages of the cipher request have no other way in (R56, R58): a request is presented only for a command that makes one,
an answer is awaited only once the wrapper took the request, and nothing is left only once the core took the answer. -/
def Obligations.RequestStages : Prop :=
  ∀ s t : State, s.Inv → s.nextEdge.rstN = true → step s = .next t →
    (t.enc = .request →
      (s.enc = .request ∧ s.nextEdge.encReqReady = false) ∨
      (t.request.isSome = true ∧
        ((s.phase = .idle ∧ s.nextEdge.cmdValid = true) ∨ (s.phase = .busy ∧ s.enc = .start)))) ∧
    (t.enc = .await →
      (s.enc = .request ∧ s.nextEdge.encReqReady = true) ∨ (s.enc = .await ∧ s.nextEdge.encRspValid = false)) ∧
    (t.enc = .done →
      (s.enc = .await ∧ s.nextEdge.encRspValid = true) ∨ (s.enc = .done ∧ s.nextEdge.coreDone = false))

/-- The cipher requests of a whole command at the port (R56, R58, R63): between its accepting edge and its response the wrapper
takes exactly the block that the command requests, if it requests one, and nothing else, and the core takes exactly as many
answers. -/
def Obligations.RequestsOnThePort : Prop :=
  ∀ (k : Nat) (s a t : State), s.phase = .idle → s.nextEdge.rstN = true → s.nextEdge.cmdValid = true →
    step s = .next a → staysBusy k a → runEdges k a = .next t → t.phase = .respond →
    requestsSent k a = a.request.toList ∧ answersTaken k a = a.request.toList.length

/-- A wrapper that never answers an outstanding request (R59): over any number of edges the core stays BUSY, presents no
response, and changes nothing. That such an edge is a next state in which only the list of edges shrinks is the model's form
of R59's stuck state (log entry 9), and that the response registers keep their values meanwhile is its choice (log entry 17). -/
def Obligations.SilentCipherHangs : Prop :=
  ∀ (k : Nat) (s : State), k ≤ s.edges.length → s.phase = .busy → s.enc = .await →
    (∀ e ∈ s.edges, e.rstN = true ∧ e.encRspValid = false ∧ e.rewire = none) →
    ∃ t, runEdges k s = .next t ∧ t = { s with edges := s.edges.drop k } ∧ t.outputs.rspValid = false ∧
      t.outputs.cmdReady = false

/-- What each command and outcome asks of the cipher (R58), as the function `commandRequest` gives it: no request or one, and
which block; a word that does not decode asks nothing, and what the port presents is the sampled command's. -/
def Obligations.RequestsPerCommand : Prop :=
  ∀ s : State, s.EngineInv →
    (∀ b : BlockSize, s.smpErr = false → s.smpBs = BitVec.ofNat 8 (blockLen b) →
      commandRequest .init s = some (List.replicate (blockLen b) 0)) ∧
    (s.configured = true → ∀ len, len ≤ s.bsReg.toNat →
      commandRequest (.write len) s =
        if s.bsReg.toNat < s.plen.toNat + len then
          some (xorBytes ((blockBytes s.x).take s.bsReg.toNat)
            (((blockBytes s.pb).take s.plen.toNat ++ (blockBytes s.cmdData).take len).take s.bsReg.toNat))
        else none) ∧
    (s.configured = true → ∃ last, commandRequest .finalize s =
      some (xorBytes last ((blockBytes s.x).take s.bsReg.toNat)) ∧ last.length = s.bsReg.toNat ∧ last = s.padSelect) ∧
    commandRequest .reset s = none ∧ commandRequest .info s = none ∧
    (∀ (i : Instr) (t : State), exec i s = .next t → statusField t.rspWord ≠ 0x00 → commandRequest i s = none) ∧
    (illegalWord s.cmdWord → s.request = none) ∧
    ∀ i : Instr, decode s.cmdWord = .ok i → s.request = (commandRequest i s).map blockOfBytes

/-- A command learns nothing of the cipher but the answer to the block it requests, and of that only the lanes of a block (R57,
R58): two ciphers that agree there give the same outcome. -/
def Obligations.OnlyTheRequestedBlockMatters : Prop :=
  ∀ (i : Instr) (s t : State) (c : Cipher),
    (∀ b, commandRequest i s = some b → ∀ k, k < b.length →
      lane (c.encrypt (blockOfBytes b)) k = lane (s.wrapper.cipher.encrypt (blockOfBytes b)) k) →
    exec i s = .next t → exec i (s.withCipher c) = .next (t.withCipher c)

/-- The platform may change the wrapper between commands, and K1, K2 and BS_REG keep their values; a change of the cipher, its
key or `cipher_bs` during a command is outside the model (R60; log entry 8). -/
def Obligations.WrapperChangesBetweenCommands : Prop :=
  ∀ (s : State) (w : Wrapper), s.nextEdge.rstN = true → s.nextEdge.rewire = some w →
    (s.phase ≠ .busy →
      ∃ t, step s = .next t ∧ t.wrapper = w ∧ t.k1 = s.k1 ∧ t.k2 = s.k2 ∧ t.bsReg = s.bsReg) ∧
    (s.phase = .busy → w.cipher ≠ s.wrapper.cipher ∨ w.cipherBs ≠ s.wrapper.cipherBs →
      step s = .refused .cipherChangedWhileBusy)

/-- The wrapper's pins matter to INIT alone, and only where it is accepted (R37, R218): a command in progress does not depend on
what they become, a command other than INIT does not depend on samples of them, and a command word that is no INIT, run from
its accepting edge on, samples none. The sampling edge is log entry 7. -/
def Obligations.WrapperPinsMatterOnlyToInit : Prop :=
  ∀ (i : Instr) (s t : State) (bs code : Byte) (err : Bool), exec i s = .next t →
    exec i (s.withPins bs err code) = .next (t.withPins bs err code) ∧
    (i ≠ .init → exec i { s with smpBs := bs, smpErr := err, smpErrCode := code } =
      .next { t with smpBs := bs, smpErr := err, smpErrCode := code }) ∧
    ∀ (c : Word32 × Block) (u : State), decode c.1 ≠ .ok .init → issue c s = .next u →
      issue c (s.withPins bs err code) = .next (u.withPins bs err code) ∧
      u.smpBs = s.smpBs ∧ u.smpErr = s.smpErr ∧ u.smpErrCode = s.smpErrCode

/-- Hardware reset (R210, R212): one edge gives every register of R21 its reset value, whatever was in progress; the core's
valid and ready outputs are 0 meanwhile, and it is ready once reset is released. -/
def Obligations.HardwareReset : Prop :=
  ∀ s : State, s.nextEdge.rstN = false →
    s.outputs.cmdReady = false ∧ s.outputs.rspValid = false ∧ s.outputs.encReqValid = false ∧
    s.outputs.encRspReady = false ∧
    ∃ t, step s = .next t ∧ t.configured = false ∧ t.bsReg = 0 ∧ t.k1 = 0 ∧ t.k2 = 0 ∧ t.x = 0 ∧ t.pb = 0 ∧
      t.plen = 0 ∧ t.phase = .idle ∧ t.rspWord = 0 ∧ t.rspTag = 0 ∧
      (t.nextEdge.rstN = true → t.outputs.cmdReady = true)

/-- What the core answers right after reset (R211): INFO with OK and COUNT 0; WRITE, FINALIZE and RESET with NOT_CONFIGURED.
What R21 does not name stays as `State.reset` has it (log entries 3, 5 and 6). -/
def Obligations.AnswersAfterReset : Prop :=
  exec .info State.reset = .next (State.reset.answered 0x00000000 0) ∧
  (∀ len, exec (.write len) State.reset = .next (State.reset.answered 0x00000002 0)) ∧
  exec .finalize State.reset = .next (State.reset.answered 0x00000002 0) ∧
  exec .reset State.reset = .next (State.reset.answered 0x00000002 0)

/-! ## Invariants -/

/-- The invariant holds right after reset. By the model's choice the samples are 0 and the cipher request stands at its first
stage there (log entry 6), and MSGLEN is 0 (log entry 10); neither R21 nor R34 names them. -/
def Obligations.ResetMeetsInvariant : Prop := State.reset.Inv ∧ State.reset.LengthInv

/-- Every step keeps the invariant of the engine's registers (R34), of the response registers (R89, R91), of the cipher request
(R56), and of the wrapper's sampled pins, which are there only while an INIT is in progress (R37, R55). That the samples are 0
otherwise and the request stands at its first stage outside BUSY is the model's choice (log entry 6), and so is that the
response registers keep their values, and with them their form, outside RESPOND (log entry 17). -/
def Obligations.StepKeepsInvariant : Prop :=
  ∀ s t : State, s.Inv → step s = .next t → t.Inv

/-- Every step keeps PLEN the function of MSGLEN (R33; log entry 10) that R139 gives, and X at zero while no block has been
processed. -/
def Obligations.StepKeepsPendingLength : Prop :=
  ∀ s t : State, s.Inv → s.LengthInv → step s = .next t → t.LengthInv

/-! ## Messages and tags -/

/-- After INIT and any beats, X, PB and PLEN are what R139 and R140 make of the message, however it was split. -/
def Obligations.ChainAndPendingFollowTheMessage : Prop :=
  ∀ (s : State) (b : BlockSize) (beats : List (List Byte)), s.wrapper.cipherErr = false →
    s.wrapper.cipherBs = BitVec.ofNat 8 (blockLen b) → (∀ d ∈ beats, d.length ≤ blockLen b) →
    let m := beats.flatten
    let bs := blockLen b
    ∃ t, issueAll ((Line.init :: beats.map Line.write).map Line.command) s = .next t ∧
      t.configured = true ∧ t.msgLen = m.length ∧
      t.plen.toNat = (if m.length = 0 then 0 else (m.length - 1) % bs + 1) ∧
      t.x = blockOfBytes (chainValue (s.cipherE bs) bs m (processedBlocks bs m.length)) ∧
      t.pb = blockOfBytes (messageRest bs m) ∧ (messageRest bs m).length = t.plen.toNat

/-- INIT, any beats, FINALIZE: the tag is the CMAC of the message, however it was split (R141). -/
def Obligations.TagIsTheCmacOfTheMessage : Prop :=
  ∀ (s : State) (b : BlockSize) (beats : List (List Byte)), s.wrapper.cipherErr = false →
    s.wrapper.cipherBs = BitVec.ofNat 8 (blockLen b) → (∀ d ∈ beats, d.length ≤ blockLen b) →
    ∃ t, issueAll ((Line.init :: (beats.map Line.write ++ [Line.finalize])).map Line.command) s = .next t ∧
      t.rspWord = responseWord .ok 0 true ∧
      t.rspTag = blockOfBytes (cmac (s.cipherE (blockLen b)) b beats.flatten)

/-- RESET starts afresh (R142): the tag of the second message is the tag of a fresh instance given that message alone. -/
def Obligations.ResetRoundTrip : Prop :=
  ∀ (s : State) (b : BlockSize) (m1 m2 : List (List Byte)), s.wrapper.cipherErr = false →
    s.wrapper.cipherBs = BitVec.ofNat 8 (blockLen b) → (∀ d ∈ m1 ++ m2, d.length ≤ blockLen b) →
    ∃ t u,
      issueAll
        ((Line.init :: (m1.map Line.write ++ Line.reset :: (m2.map Line.write ++ [Line.finalize]))).map Line.command) s
        = .next t ∧
      issueAll ((Line.init :: (m2.map Line.write ++ [Line.finalize])).map Line.command) s = .next u ∧
      t.rspTag = u.rspTag ∧ t.rspWord = u.rspWord ∧ t.rspWord = responseWord .ok 0 true

/-- `MAC <m>` on a configured core (R93, R217): the tag is computed from the cipher the wrapper holds now and the subkeys that
INIT left, whether or not the cipher changed in between. -/
def Obligations.MacUsesTheInstanceSubkeys : Prop :=
  ∀ (s : State) (m : List Byte), s.EngineInv → s.configured = true →
    let bs := s.bsReg.toNat
    ∃ t, issueAll ((Line.mac bs m).map Line.command) s = .next t ∧ t.rspWord = responseWord .ok 0 true ∧
      t.rspTag =
        blockOfBytes (tagOf (s.cipherE bs) bs ((blockBytes s.k1).take bs) ((blockBytes s.k2).take bs) m)

/-- `WRITEMSG <m>` (R93): the beats are the message in order, full blocks but for the last, and none for an empty message. -/
def Obligations.WriteMsgBeats : Prop :=
  ∀ (n : Nat) (m : List Byte), 0 < n →
    (messageBeats n m).flatten = m ∧ (∀ d ∈ messageBeats n m, 1 ≤ d.length ∧ d.length ≤ n) ∧
    (∀ d ∈ (messageBeats n m).dropLast, d.length = n) ∧ (m = [] → messageBeats n m = [])

/-! ## What timing and responses depend on -/

/-- Data-independent timing (R104, R224): two states that differ only in message bytes, K1, K2, X, PB, the cipher and the tag
drive the same handshake outputs and response word, and step to two states that again differ only there. An edge at which the
platform changes the cipher during a command is left out on both sides alike (R60). Latencies are inputs (log entries 2 and
20). -/
def Obligations.TimingIndependentOfData : Prop :=
  ∀ s s' : State, s.publicView = s'.publicView →
    s.illegalRewire s.nextEdge.rewire = s'.illegalRewire s'.nextEdge.rewire →
    (s.outputs.cmdReady = s'.outputs.cmdReady ∧ s.outputs.rspValid = s'.outputs.rspValid ∧
      s.outputs.rspWord = s'.outputs.rspWord ∧ s.outputs.encReqValid = s'.outputs.encReqValid ∧
      s.outputs.encRspReady = s'.outputs.encRspReady) ∧
    ((∃ t t', step s = .next t ∧ step s' = .next t' ∧ t.publicView = t'.publicView) ∨
      (step s = .refused .cipherChangedWhileBusy ∧ step s' = .refused .cipherChangedWhileBusy))
end

