-- ==== Sys2Proof/Laws/Lanes.lean ====
section
/-! SUPPORT. Byte lanes: a register and the byte sequence it holds say the same thing. -/

namespace Sys2Proof.Machine

theorem lane_placeLane (v : Byte) (i j : Nat) (hi : i < 16) (hj : j < 16) :
    lane (placeLane v j) i = if i = j then v else 0 := by
  unfold lane placeLane
  apply BitVec.eq_of_getLsbD_eq
  intro k hk
  simp only [BitVec.getLsbD_extractLsb', BitVec.getLsbD_shiftLeft, BitVec.getLsbD_setWidth]
  split
  · subst i
    have h : (120 - 8 * j + k) - (120 - 8 * j) = k := by omega
    rw [h]
    simp [hk, show 120 - 8 * j + k < 128 by omega, show k < 128 by omega]
  · simp
    intro _ _ _ _
    apply BitVec.getLsbD_of_ge
    omega

theorem lane_or (a b : Block) (i : Nat) : lane (a ||| b) i = lane a i ||| lane b i := by
  unfold lane
  apply BitVec.eq_of_getLsbD_eq
  intro k hk
  simp [hk]

theorem lane_packLanes (l : List Byte) (n i : Nat) (hn : n ≤ 16) (hi : i < 16) :
    lane (packLanes l n) i = if i < n then l.getD i 0 else 0 := by
  induction n with
  | zero => simp [packLanes, lane]
  | succ n ih =>
    rw [packLanes, lane_or, ih (by omega), lane_placeLane _ _ _ hi (by omega)]
    by_cases h : i = n
    · subst h; simp
    · rw [if_neg h]
      by_cases h2 : i < n
      · simp [h2, show i < n + 1 by omega]
      · simp [h2, show ¬ i < n + 1 by omega]

/-- Byte `i` of a sequence travels in lane `i` (R53). -/
theorem lane_blockOfBytes (l : List Byte) (i : Nat) (hi : i < 16) : lane (blockOfBytes l) i = l.getD i 0 := by
  rw [blockOfBytes, lane_packLanes l 16 i (by omega) hi, if_pos hi]

theorem lane_zero (i : Nat) : lane 0 i = 0 := by simp [lane]

/-- The sixteen lanes are all of a bus. -/
theorem block_ext (a b : Block) (h : ∀ i, i < 16 → lane a i = lane b i) : a = b := by
  apply BitVec.eq_of_getLsbD_eq
  intro k hk
  have hl := congrArg (fun v : Byte => v.getLsbD (k % 8)) (h (15 - k / 8) (by omega))
  have e : 120 - 8 * (15 - k / 8) + k % 8 = k := by omega
  simpa [lane, BitVec.getLsbD_extractLsb', e, show k % 8 < 8 by omega] using hl

@[simp] theorem blockBytes_length (b : Block) : (blockBytes b).length = 16 := by simp [blockBytes]

@[simp] theorem blockBytes_getElem (b : Block) (i : Nat) (h : i < (blockBytes b).length) :
    (blockBytes b)[i] = lane b i := by simp [blockBytes]

@[simp] theorem zeros_length (k : Nat) : (zeros k).length = k := by simp [zeros]

@[simp] theorem xorBytes_length (a b : List Byte) : (xorBytes a b).length = min a.length b.length := by simp [xorBytes]

theorem blockBytes_blockOfBytes (l : List Byte) (h : l.length ≤ 16) :
    blockBytes (blockOfBytes l) = l ++ zeros (16 - l.length) := by
  apply List.ext_getElem
  · simp; omega
  · intro i h1 h2
    have hi : i < 16 := by simpa using h1
    rw [blockBytes_getElem, lane_blockOfBytes _ _ hi, List.getElem_append]
    split
    · simp [List.getD_eq_getElem?_getD, *]
    · rename_i h3
      simp [zeros, List.getD_eq_getElem?_getD, List.getElem?_eq_none (show l.length ≤ i by omega)]

/-- A register loaded with a sequence gives that sequence back. -/
theorem take_blockBytes_blockOfBytes (l : List Byte) (h : l.length ≤ 16) :
    (blockBytes (blockOfBytes l)).take l.length = l := by
  rw [blockBytes_blockOfBytes l h]; simp

theorem zeroFrom_blockOfBytes (l : List Byte) (n : Nat) (h : l.length ≤ n) : zeroFrom n (blockOfBytes l) := by
  intro i hi hn
  rw [lane_blockOfBytes _ _ hi, List.getD_eq_default]
  omega

theorem zeroFrom_zero (n : Nat) : zeroFrom n 0 := fun i _ _ => lane_zero i

theorem zeroFrom_mono (b : Block) (m n : Nat) (h : zeroFrom m b) (hmn : m ≤ n) : zeroFrom n b :=
  fun i hi hn => h i hi (by omega)

/-- A register whose lanes from `n` on are 0 is the sequence of its first `n` bytes. -/
theorem blockOfBytes_take (b : Block) (n : Nat) (h : zeroFrom n b) : blockOfBytes ((blockBytes b).take n) = b := by
  apply block_ext
  intro i hi
  rw [lane_blockOfBytes _ _ hi]
  by_cases hn : i < n
  · simp [List.getD_eq_getElem?_getD, hn, blockBytes, hi]
  · rw [List.getD_eq_default, h i hi (by omega)]
    simp; omega

theorem blockOfBytes_zeros (k : Nat) : blockOfBytes (zeros k) = 0 := by
  apply block_ext
  intro i hi
  rw [lane_blockOfBytes _ _ hi, lane_zero]
  by_cases h : i < k <;> simp [zeros, List.getD_eq_getElem?_getD, h]

theorem take_blockBytes_zero (n : Nat) (h : n ≤ 16) : (blockBytes 0).take n = zeros n := by
  have h0 := take_blockBytes_blockOfBytes (zeros n) (by simpa using h)
  rwa [blockOfBytes_zeros, zeros_length] at h0

/-- The two block sizes (R6). -/
theorem blockLen_cases (b : BlockSize) : blockLen b = 8 ∨ blockLen b = 16 := by cases b <;> simp [blockLen]

theorem toBlockSize_eq_some (v : Byte) (b : BlockSize) (h : toBlockSize v = some b) : v.toNat = blockLen b := by
  unfold toBlockSize at h
  split at h
  · cases h; simp [blockLen, *]
  · split at h
    · cases h; simp [blockLen, *]
    · cases h

theorem toBlockSize_eq_none (v : Byte) : toBlockSize v = none ↔ v ≠ 8 ∧ v ≠ 16 := by
  unfold toBlockSize
  split
  · simp [*]
  · rename_i h8
    split
    · simp [*]
    · rename_i h16
      exact ⟨fun _ => ⟨h8, h16⟩, fun _ => rfl⟩

end Sys2Proof.Machine
end

