-- ==== Sys2Proof/Laws/State.lean ====
section
/-! SUPPORT. One lemma per field of State and per named update (Machine/Ops.lean, Machine/Operands.lean,
Machine/Ports.lean, Safety.lean), each true by rfl. -/

namespace Sys2Proof.Machine.State

variable (s : State)

section
variable (st : Status) (c : Byte) (tag : Block)

@[simp] theorem respond_configured : (s.respond st c tag).configured = s.configured := rfl
@[simp] theorem respond_bsReg : (s.respond st c tag).bsReg = s.bsReg := rfl
@[simp] theorem respond_k1 : (s.respond st c tag).k1 = s.k1 := rfl
@[simp] theorem respond_k2 : (s.respond st c tag).k2 = s.k2 := rfl
@[simp] theorem respond_x : (s.respond st c tag).x = s.x := rfl
@[simp] theorem respond_pb : (s.respond st c tag).pb = s.pb := rfl
@[simp] theorem respond_plen : (s.respond st c tag).plen = s.plen := rfl
@[simp] theorem respond_phase : (s.respond st c tag).phase = .respond := rfl
@[simp] theorem respond_rspWord : (s.respond st c tag).rspWord = responseWord st c s.configured := rfl
@[simp] theorem respond_rspTag : (s.respond st c tag).rspTag = tag := rfl
@[simp] theorem respond_msgLen : (s.respond st c tag).msgLen = s.msgLen := rfl
@[simp] theorem respond_cmdWord : (s.respond st c tag).cmdWord = s.cmdWord := rfl
@[simp] theorem respond_cmdData : (s.respond st c tag).cmdData = s.cmdData := rfl
@[simp] theorem respond_smpBs : (s.respond st c tag).smpBs = s.smpBs := rfl
@[simp] theorem respond_smpErr : (s.respond st c tag).smpErr = s.smpErr := rfl
@[simp] theorem respond_smpErrCode : (s.respond st c tag).smpErrCode = s.smpErrCode := rfl
@[simp] theorem respond_enc : (s.respond st c tag).enc = .start := rfl
@[simp] theorem respond_wrapper : (s.respond st c tag).wrapper = s.wrapper := rfl
@[simp] theorem respond_edges : (s.respond st c tag).edges = s.edges := rfl

end

section
variable (st : Status) (c : Byte)

@[simp] theorem raise_configured : (s.raise st c).configured = s.configured := rfl
@[simp] theorem raise_bsReg : (s.raise st c).bsReg = s.bsReg := rfl
@[simp] theorem raise_k1 : (s.raise st c).k1 = s.k1 := rfl
@[simp] theorem raise_k2 : (s.raise st c).k2 = s.k2 := rfl
@[simp] theorem raise_x : (s.raise st c).x = s.x := rfl
@[simp] theorem raise_pb : (s.raise st c).pb = s.pb := rfl
@[simp] theorem raise_plen : (s.raise st c).plen = s.plen := rfl
@[simp] theorem raise_phase : (s.raise st c).phase = .respond := rfl
@[simp] theorem raise_rspWord : (s.raise st c).rspWord = responseWord st c s.configured := rfl
@[simp] theorem raise_rspTag : (s.raise st c).rspTag = 0 := rfl
@[simp] theorem raise_msgLen : (s.raise st c).msgLen = s.msgLen := rfl
@[simp] theorem raise_cmdWord : (s.raise st c).cmdWord = s.cmdWord := rfl
@[simp] theorem raise_cmdData : (s.raise st c).cmdData = s.cmdData := rfl
@[simp] theorem raise_smpBs : (s.raise st c).smpBs = s.smpBs := rfl
@[simp] theorem raise_smpErr : (s.raise st c).smpErr = s.smpErr := rfl
@[simp] theorem raise_smpErrCode : (s.raise st c).smpErrCode = s.smpErrCode := rfl
@[simp] theorem raise_enc : (s.raise st c).enc = .start := rfl
@[simp] theorem raise_wrapper : (s.raise st c).wrapper = s.wrapper := rfl
@[simp] theorem raise_edges : (s.raise st c).edges = s.edges := rfl

end

section

@[simp] theorem zeroize_configured : (s.zeroize).configured = false := rfl
@[simp] theorem zeroize_bsReg : (s.zeroize).bsReg = 0 := rfl
@[simp] theorem zeroize_k1 : (s.zeroize).k1 = 0 := rfl
@[simp] theorem zeroize_k2 : (s.zeroize).k2 = 0 := rfl
@[simp] theorem zeroize_x : (s.zeroize).x = 0 := rfl
@[simp] theorem zeroize_pb : (s.zeroize).pb = 0 := rfl
@[simp] theorem zeroize_plen : (s.zeroize).plen = 0 := rfl
@[simp] theorem zeroize_phase : (s.zeroize).phase = s.phase := rfl
@[simp] theorem zeroize_rspWord : (s.zeroize).rspWord = s.rspWord := rfl
@[simp] theorem zeroize_rspTag : (s.zeroize).rspTag = s.rspTag := rfl
@[simp] theorem zeroize_msgLen : (s.zeroize).msgLen = s.msgLen := rfl
@[simp] theorem zeroize_cmdWord : (s.zeroize).cmdWord = s.cmdWord := rfl
@[simp] theorem zeroize_cmdData : (s.zeroize).cmdData = s.cmdData := rfl
@[simp] theorem zeroize_smpBs : (s.zeroize).smpBs = s.smpBs := rfl
@[simp] theorem zeroize_smpErr : (s.zeroize).smpErr = s.smpErr := rfl
@[simp] theorem zeroize_smpErrCode : (s.zeroize).smpErrCode = s.smpErrCode := rfl
@[simp] theorem zeroize_enc : (s.zeroize).enc = s.enc := rfl
@[simp] theorem zeroize_wrapper : (s.zeroize).wrapper = s.wrapper := rfl
@[simp] theorem zeroize_edges : (s.zeroize).edges = s.edges := rfl

end

section

@[simp] theorem clearMessage_configured : (s.clearMessage).configured = s.configured := rfl
@[simp] theorem clearMessage_bsReg : (s.clearMessage).bsReg = s.bsReg := rfl
@[simp] theorem clearMessage_k1 : (s.clearMessage).k1 = s.k1 := rfl
@[simp] theorem clearMessage_k2 : (s.clearMessage).k2 = s.k2 := rfl
@[simp] theorem clearMessage_x : (s.clearMessage).x = 0 := rfl
@[simp] theorem clearMessage_pb : (s.clearMessage).pb = 0 := rfl
@[simp] theorem clearMessage_plen : (s.clearMessage).plen = 0 := rfl
@[simp] theorem clearMessage_phase : (s.clearMessage).phase = s.phase := rfl
@[simp] theorem clearMessage_rspWord : (s.clearMessage).rspWord = s.rspWord := rfl
@[simp] theorem clearMessage_rspTag : (s.clearMessage).rspTag = s.rspTag := rfl
@[simp] theorem clearMessage_msgLen : (s.clearMessage).msgLen = 0 := rfl
@[simp] theorem clearMessage_cmdWord : (s.clearMessage).cmdWord = s.cmdWord := rfl
@[simp] theorem clearMessage_cmdData : (s.clearMessage).cmdData = s.cmdData := rfl
@[simp] theorem clearMessage_smpBs : (s.clearMessage).smpBs = s.smpBs := rfl
@[simp] theorem clearMessage_smpErr : (s.clearMessage).smpErr = s.smpErr := rfl
@[simp] theorem clearMessage_smpErrCode : (s.clearMessage).smpErrCode = s.smpErrCode := rfl
@[simp] theorem clearMessage_enc : (s.clearMessage).enc = s.enc := rfl
@[simp] theorem clearMessage_wrapper : (s.clearMessage).wrapper = s.wrapper := rfl
@[simp] theorem clearMessage_edges : (s.clearMessage).edges = s.edges := rfl

end

section
variable (b : BlockSize) (u v : List Byte)

@[simp] theorem configure_configured : (s.configure b u v).configured = true := rfl
@[simp] theorem configure_bsReg : (s.configure b u v).bsReg = BitVec.ofNat 8 (blockLen b) := rfl
@[simp] theorem configure_k1 : (s.configure b u v).k1 = blockOfBytes u := rfl
@[simp] theorem configure_k2 : (s.configure b u v).k2 = blockOfBytes v := rfl
@[simp] theorem configure_x : (s.configure b u v).x = 0 := rfl
@[simp] theorem configure_pb : (s.configure b u v).pb = 0 := rfl
@[simp] theorem configure_plen : (s.configure b u v).plen = 0 := rfl
@[simp] theorem configure_phase : (s.configure b u v).phase = s.phase := rfl
@[simp] theorem configure_rspWord : (s.configure b u v).rspWord = s.rspWord := rfl
@[simp] theorem configure_rspTag : (s.configure b u v).rspTag = s.rspTag := rfl
@[simp] theorem configure_msgLen : (s.configure b u v).msgLen = 0 := rfl
@[simp] theorem configure_cmdWord : (s.configure b u v).cmdWord = s.cmdWord := rfl
@[simp] theorem configure_cmdData : (s.configure b u v).cmdData = s.cmdData := rfl
@[simp] theorem configure_smpBs : (s.configure b u v).smpBs = s.smpBs := rfl
@[simp] theorem configure_smpErr : (s.configure b u v).smpErr = s.smpErr := rfl
@[simp] theorem configure_smpErrCode : (s.configure b u v).smpErrCode = s.smpErrCode := rfl
@[simp] theorem configure_enc : (s.configure b u v).enc = s.enc := rfl
@[simp] theorem configure_wrapper : (s.configure b u v).wrapper = s.wrapper := rfl
@[simp] theorem configure_edges : (s.configure b u v).edges = s.edges := rfl

end

section
variable (v : List Byte)

@[simp] theorem setChain_configured : (s.setChain v).configured = s.configured := rfl
@[simp] theorem setChain_bsReg : (s.setChain v).bsReg = s.bsReg := rfl
@[simp] theorem setChain_k1 : (s.setChain v).k1 = s.k1 := rfl
@[simp] theorem setChain_k2 : (s.setChain v).k2 = s.k2 := rfl
@[simp] theorem setChain_x : (s.setChain v).x = blockOfBytes v := rfl
@[simp] theorem setChain_pb : (s.setChain v).pb = s.pb := rfl
@[simp] theorem setChain_plen : (s.setChain v).plen = s.plen := rfl
@[simp] theorem setChain_phase : (s.setChain v).phase = s.phase := rfl
@[simp] theorem setChain_rspWord : (s.setChain v).rspWord = s.rspWord := rfl
@[simp] theorem setChain_rspTag : (s.setChain v).rspTag = s.rspTag := rfl
@[simp] theorem setChain_msgLen : (s.setChain v).msgLen = s.msgLen := rfl
@[simp] theorem setChain_cmdWord : (s.setChain v).cmdWord = s.cmdWord := rfl
@[simp] theorem setChain_cmdData : (s.setChain v).cmdData = s.cmdData := rfl
@[simp] theorem setChain_smpBs : (s.setChain v).smpBs = s.smpBs := rfl
@[simp] theorem setChain_smpErr : (s.setChain v).smpErr = s.smpErr := rfl
@[simp] theorem setChain_smpErrCode : (s.setChain v).smpErrCode = s.smpErrCode := rfl
@[simp] theorem setChain_enc : (s.setChain v).enc = s.enc := rfl
@[simp] theorem setChain_wrapper : (s.setChain v).wrapper = s.wrapper := rfl
@[simp] theorem setChain_edges : (s.setChain v).edges = s.edges := rfl

end

section
variable (c : List Byte)

@[simp] theorem setPending_configured : (s.setPending c).configured = s.configured := rfl
@[simp] theorem setPending_bsReg : (s.setPending c).bsReg = s.bsReg := rfl
@[simp] theorem setPending_k1 : (s.setPending c).k1 = s.k1 := rfl
@[simp] theorem setPending_k2 : (s.setPending c).k2 = s.k2 := rfl
@[simp] theorem setPending_x : (s.setPending c).x = s.x := rfl
@[simp] theorem setPending_pb : (s.setPending c).pb = blockOfBytes c := rfl
@[simp] theorem setPending_plen : (s.setPending c).plen = BitVec.ofNat 5 c.length := rfl
@[simp] theorem setPending_phase : (s.setPending c).phase = s.phase := rfl
@[simp] theorem setPending_rspWord : (s.setPending c).rspWord = s.rspWord := rfl
@[simp] theorem setPending_rspTag : (s.setPending c).rspTag = s.rspTag := rfl
@[simp] theorem setPending_msgLen : (s.setPending c).msgLen = s.msgLen := rfl
@[simp] theorem setPending_cmdWord : (s.setPending c).cmdWord = s.cmdWord := rfl
@[simp] theorem setPending_cmdData : (s.setPending c).cmdData = s.cmdData := rfl
@[simp] theorem setPending_smpBs : (s.setPending c).smpBs = s.smpBs := rfl
@[simp] theorem setPending_smpErr : (s.setPending c).smpErr = s.smpErr := rfl
@[simp] theorem setPending_smpErrCode : (s.setPending c).smpErrCode = s.smpErrCode := rfl
@[simp] theorem setPending_enc : (s.setPending c).enc = s.enc := rfl
@[simp] theorem setPending_wrapper : (s.setPending c).wrapper = s.wrapper := rfl
@[simp] theorem setPending_edges : (s.setPending c).edges = s.edges := rfl

end

section
variable (k : Nat)

@[simp] theorem countMessage_configured : (s.countMessage k).configured = s.configured := rfl
@[simp] theorem countMessage_bsReg : (s.countMessage k).bsReg = s.bsReg := rfl
@[simp] theorem countMessage_k1 : (s.countMessage k).k1 = s.k1 := rfl
@[simp] theorem countMessage_k2 : (s.countMessage k).k2 = s.k2 := rfl
@[simp] theorem countMessage_x : (s.countMessage k).x = s.x := rfl
@[simp] theorem countMessage_pb : (s.countMessage k).pb = s.pb := rfl
@[simp] theorem countMessage_plen : (s.countMessage k).plen = s.plen := rfl
@[simp] theorem countMessage_phase : (s.countMessage k).phase = s.phase := rfl
@[simp] theorem countMessage_rspWord : (s.countMessage k).rspWord = s.rspWord := rfl
@[simp] theorem countMessage_rspTag : (s.countMessage k).rspTag = s.rspTag := rfl
@[simp] theorem countMessage_msgLen : (s.countMessage k).msgLen = s.msgLen + k := rfl
@[simp] theorem countMessage_cmdWord : (s.countMessage k).cmdWord = s.cmdWord := rfl
@[simp] theorem countMessage_cmdData : (s.countMessage k).cmdData = s.cmdData := rfl
@[simp] theorem countMessage_smpBs : (s.countMessage k).smpBs = s.smpBs := rfl
@[simp] theorem countMessage_smpErr : (s.countMessage k).smpErr = s.smpErr := rfl
@[simp] theorem countMessage_smpErrCode : (s.countMessage k).smpErrCode = s.smpErrCode := rfl
@[simp] theorem countMessage_enc : (s.countMessage k).enc = s.enc := rfl
@[simp] theorem countMessage_wrapper : (s.countMessage k).wrapper = s.wrapper := rfl
@[simp] theorem countMessage_edges : (s.countMessage k).edges = s.edges := rfl

end

section

@[simp] theorem hardReset_configured : (s.hardReset).configured = false := rfl
@[simp] theorem hardReset_bsReg : (s.hardReset).bsReg = 0 := rfl
@[simp] theorem hardReset_k1 : (s.hardReset).k1 = 0 := rfl
@[simp] theorem hardReset_k2 : (s.hardReset).k2 = 0 := rfl
@[simp] theorem hardReset_x : (s.hardReset).x = 0 := rfl
@[simp] theorem hardReset_pb : (s.hardReset).pb = 0 := rfl
@[simp] theorem hardReset_plen : (s.hardReset).plen = 0 := rfl
@[simp] theorem hardReset_phase : (s.hardReset).phase = .idle := rfl
@[simp] theorem hardReset_rspWord : (s.hardReset).rspWord = 0 := rfl
@[simp] theorem hardReset_rspTag : (s.hardReset).rspTag = 0 := rfl
@[simp] theorem hardReset_msgLen : (s.hardReset).msgLen = 0 := rfl
@[simp] theorem hardReset_cmdWord : (s.hardReset).cmdWord = 0 := rfl
@[simp] theorem hardReset_cmdData : (s.hardReset).cmdData = 0 := rfl
@[simp] theorem hardReset_smpBs : (s.hardReset).smpBs = 0 := rfl
@[simp] theorem hardReset_smpErr : (s.hardReset).smpErr = false := rfl
@[simp] theorem hardReset_smpErrCode : (s.hardReset).smpErrCode = 0 := rfl
@[simp] theorem hardReset_enc : (s.hardReset).enc = .start := rfl
@[simp] theorem hardReset_wrapper : (s.hardReset).wrapper = s.wrapper := rfl
@[simp] theorem hardReset_edges : (s.hardReset).edges = s.edges := rfl

end

section
variable (w : Word32) (d : Block)

@[simp] theorem sample_configured : (s.sample w d).configured = s.configured := rfl
@[simp] theorem sample_bsReg : (s.sample w d).bsReg = s.bsReg := rfl
@[simp] theorem sample_k1 : (s.sample w d).k1 = s.k1 := rfl
@[simp] theorem sample_k2 : (s.sample w d).k2 = s.k2 := rfl
@[simp] theorem sample_x : (s.sample w d).x = s.x := rfl
@[simp] theorem sample_pb : (s.sample w d).pb = s.pb := rfl
@[simp] theorem sample_plen : (s.sample w d).plen = s.plen := rfl
@[simp] theorem sample_phase : (s.sample w d).phase = .busy := rfl
@[simp] theorem sample_rspWord : (s.sample w d).rspWord = s.rspWord := rfl
@[simp] theorem sample_rspTag : (s.sample w d).rspTag = s.rspTag := rfl
@[simp] theorem sample_msgLen : (s.sample w d).msgLen = s.msgLen := rfl
@[simp] theorem sample_cmdWord : (s.sample w d).cmdWord = w := rfl
@[simp] theorem sample_cmdData : (s.sample w d).cmdData = d := rfl
@[simp] theorem sample_smpBs : (s.sample w d).smpBs = if wordReadsWrapper w then s.wrapper.cipherBs else s.smpBs := rfl
@[simp] theorem sample_smpErr : (s.sample w d).smpErr = if wordReadsWrapper w then s.wrapper.cipherErr else s.smpErr := rfl
@[simp] theorem sample_smpErrCode :
    (s.sample w d).smpErrCode =
      if wordReadsWrapper w && s.wrapper.cipherErr then s.wrapper.cipherErrCode else s.smpErrCode := rfl
@[simp] theorem sample_enc : (s.sample w d).enc = .start := rfl
@[simp] theorem sample_wrapper : (s.sample w d).wrapper = s.wrapper := rfl
@[simp] theorem sample_edges : (s.sample w d).edges = s.edges := rfl

end

section

@[simp] theorem dropSamples_configured : (s.dropSamples).configured = s.configured := rfl
@[simp] theorem dropSamples_bsReg : (s.dropSamples).bsReg = s.bsReg := rfl
@[simp] theorem dropSamples_k1 : (s.dropSamples).k1 = s.k1 := rfl
@[simp] theorem dropSamples_k2 : (s.dropSamples).k2 = s.k2 := rfl
@[simp] theorem dropSamples_x : (s.dropSamples).x = s.x := rfl
@[simp] theorem dropSamples_pb : (s.dropSamples).pb = s.pb := rfl
@[simp] theorem dropSamples_plen : (s.dropSamples).plen = s.plen := rfl
@[simp] theorem dropSamples_phase : (s.dropSamples).phase = s.phase := rfl
@[simp] theorem dropSamples_rspWord : (s.dropSamples).rspWord = s.rspWord := rfl
@[simp] theorem dropSamples_rspTag : (s.dropSamples).rspTag = s.rspTag := rfl
@[simp] theorem dropSamples_msgLen : (s.dropSamples).msgLen = s.msgLen := rfl
@[simp] theorem dropSamples_cmdWord : (s.dropSamples).cmdWord = s.cmdWord := rfl
@[simp] theorem dropSamples_cmdData : (s.dropSamples).cmdData = s.cmdData := rfl
@[simp] theorem dropSamples_smpBs : (s.dropSamples).smpBs = 0 := rfl
@[simp] theorem dropSamples_smpErr : (s.dropSamples).smpErr = false := rfl
@[simp] theorem dropSamples_smpErrCode : (s.dropSamples).smpErrCode = 0 := rfl
@[simp] theorem dropSamples_enc : (s.dropSamples).enc = s.enc := rfl
@[simp] theorem dropSamples_wrapper : (s.dropSamples).wrapper = s.wrapper := rfl
@[simp] theorem dropSamples_edges : (s.dropSamples).edges = s.edges := rfl

end

section
variable (p : Byte) (b : Bool) (c : Byte)

@[simp] theorem withPins_configured : (s.withPins p b c).configured = s.configured := rfl
@[simp] theorem withPins_bsReg : (s.withPins p b c).bsReg = s.bsReg := rfl
@[simp] theorem withPins_k1 : (s.withPins p b c).k1 = s.k1 := rfl
@[simp] theorem withPins_k2 : (s.withPins p b c).k2 = s.k2 := rfl
@[simp] theorem withPins_x : (s.withPins p b c).x = s.x := rfl
@[simp] theorem withPins_pb : (s.withPins p b c).pb = s.pb := rfl
@[simp] theorem withPins_plen : (s.withPins p b c).plen = s.plen := rfl
@[simp] theorem withPins_phase : (s.withPins p b c).phase = s.phase := rfl
@[simp] theorem withPins_rspWord : (s.withPins p b c).rspWord = s.rspWord := rfl
@[simp] theorem withPins_rspTag : (s.withPins p b c).rspTag = s.rspTag := rfl
@[simp] theorem withPins_msgLen : (s.withPins p b c).msgLen = s.msgLen := rfl
@[simp] theorem withPins_cmdWord : (s.withPins p b c).cmdWord = s.cmdWord := rfl
@[simp] theorem withPins_cmdData : (s.withPins p b c).cmdData = s.cmdData := rfl
@[simp] theorem withPins_smpBs : (s.withPins p b c).smpBs = s.smpBs := rfl
@[simp] theorem withPins_smpErr : (s.withPins p b c).smpErr = s.smpErr := rfl
@[simp] theorem withPins_smpErrCode : (s.withPins p b c).smpErrCode = s.smpErrCode := rfl
@[simp] theorem withPins_enc : (s.withPins p b c).enc = s.enc := rfl
@[simp] theorem withPins_wrapper :
    (s.withPins p b c).wrapper =
      { s.wrapper with cipherBs := p, cipherErr := b, cipherErrCode := c } := rfl
@[simp] theorem withPins_edges : (s.withPins p b c).edges = s.edges := rfl

end

section
variable (p : Phase)

@[simp] theorem setPhase_configured : (s.setPhase p).configured = s.configured := rfl
@[simp] theorem setPhase_bsReg : (s.setPhase p).bsReg = s.bsReg := rfl
@[simp] theorem setPhase_k1 : (s.setPhase p).k1 = s.k1 := rfl
@[simp] theorem setPhase_k2 : (s.setPhase p).k2 = s.k2 := rfl
@[simp] theorem setPhase_x : (s.setPhase p).x = s.x := rfl
@[simp] theorem setPhase_pb : (s.setPhase p).pb = s.pb := rfl
@[simp] theorem setPhase_plen : (s.setPhase p).plen = s.plen := rfl
@[simp] theorem setPhase_phase : (s.setPhase p).phase = p := rfl
@[simp] theorem setPhase_rspWord : (s.setPhase p).rspWord = s.rspWord := rfl
@[simp] theorem setPhase_rspTag : (s.setPhase p).rspTag = s.rspTag := rfl
@[simp] theorem setPhase_msgLen : (s.setPhase p).msgLen = s.msgLen := rfl
@[simp] theorem setPhase_cmdWord : (s.setPhase p).cmdWord = s.cmdWord := rfl
@[simp] theorem setPhase_cmdData : (s.setPhase p).cmdData = s.cmdData := rfl
@[simp] theorem setPhase_smpBs : (s.setPhase p).smpBs = s.smpBs := rfl
@[simp] theorem setPhase_smpErr : (s.setPhase p).smpErr = s.smpErr := rfl
@[simp] theorem setPhase_smpErrCode : (s.setPhase p).smpErrCode = s.smpErrCode := rfl
@[simp] theorem setPhase_enc : (s.setPhase p).enc = s.enc := rfl
@[simp] theorem setPhase_wrapper : (s.setPhase p).wrapper = s.wrapper := rfl
@[simp] theorem setPhase_edges : (s.setPhase p).edges = s.edges := rfl

end

section
variable (e : EncStage)

@[simp] theorem setEnc_configured : (s.setEnc e).configured = s.configured := rfl
@[simp] theorem setEnc_bsReg : (s.setEnc e).bsReg = s.bsReg := rfl
@[simp] theorem setEnc_k1 : (s.setEnc e).k1 = s.k1 := rfl
@[simp] theorem setEnc_k2 : (s.setEnc e).k2 = s.k2 := rfl
@[simp] theorem setEnc_x : (s.setEnc e).x = s.x := rfl
@[simp] theorem setEnc_pb : (s.setEnc e).pb = s.pb := rfl
@[simp] theorem setEnc_plen : (s.setEnc e).plen = s.plen := rfl
@[simp] theorem setEnc_phase : (s.setEnc e).phase = s.phase := rfl
@[simp] theorem setEnc_rspWord : (s.setEnc e).rspWord = s.rspWord := rfl
@[simp] theorem setEnc_rspTag : (s.setEnc e).rspTag = s.rspTag := rfl
@[simp] theorem setEnc_msgLen : (s.setEnc e).msgLen = s.msgLen := rfl
@[simp] theorem setEnc_cmdWord : (s.setEnc e).cmdWord = s.cmdWord := rfl
@[simp] theorem setEnc_cmdData : (s.setEnc e).cmdData = s.cmdData := rfl
@[simp] theorem setEnc_smpBs : (s.setEnc e).smpBs = s.smpBs := rfl
@[simp] theorem setEnc_smpErr : (s.setEnc e).smpErr = s.smpErr := rfl
@[simp] theorem setEnc_smpErrCode : (s.setEnc e).smpErrCode = s.smpErrCode := rfl
@[simp] theorem setEnc_enc : (s.setEnc e).enc = e := rfl
@[simp] theorem setEnc_wrapper : (s.setEnc e).wrapper = s.wrapper := rfl
@[simp] theorem setEnc_edges : (s.setEnc e).edges = s.edges := rfl

end

section
variable (w : Option Wrapper)

@[simp] theorem rewire_configured : (s.rewire w).configured = s.configured := rfl
@[simp] theorem rewire_bsReg : (s.rewire w).bsReg = s.bsReg := rfl
@[simp] theorem rewire_k1 : (s.rewire w).k1 = s.k1 := rfl
@[simp] theorem rewire_k2 : (s.rewire w).k2 = s.k2 := rfl
@[simp] theorem rewire_x : (s.rewire w).x = s.x := rfl
@[simp] theorem rewire_pb : (s.rewire w).pb = s.pb := rfl
@[simp] theorem rewire_plen : (s.rewire w).plen = s.plen := rfl
@[simp] theorem rewire_phase : (s.rewire w).phase = s.phase := rfl
@[simp] theorem rewire_rspWord : (s.rewire w).rspWord = s.rspWord := rfl
@[simp] theorem rewire_rspTag : (s.rewire w).rspTag = s.rspTag := rfl
@[simp] theorem rewire_msgLen : (s.rewire w).msgLen = s.msgLen := rfl
@[simp] theorem rewire_cmdWord : (s.rewire w).cmdWord = s.cmdWord := rfl
@[simp] theorem rewire_cmdData : (s.rewire w).cmdData = s.cmdData := rfl
@[simp] theorem rewire_smpBs : (s.rewire w).smpBs = s.smpBs := rfl
@[simp] theorem rewire_smpErr : (s.rewire w).smpErr = s.smpErr := rfl
@[simp] theorem rewire_smpErrCode : (s.rewire w).smpErrCode = s.smpErrCode := rfl
@[simp] theorem rewire_enc : (s.rewire w).enc = s.enc := rfl
@[simp] theorem rewire_wrapper : (s.rewire w).wrapper = w.getD s.wrapper := rfl
@[simp] theorem rewire_edges : (s.rewire w).edges = s.edges := rfl

end

section
variable (l : List Edge)

@[simp] theorem setEdges_configured : (s.setEdges l).configured = s.configured := rfl
@[simp] theorem setEdges_bsReg : (s.setEdges l).bsReg = s.bsReg := rfl
@[simp] theorem setEdges_k1 : (s.setEdges l).k1 = s.k1 := rfl
@[simp] theorem setEdges_k2 : (s.setEdges l).k2 = s.k2 := rfl
@[simp] theorem setEdges_x : (s.setEdges l).x = s.x := rfl
@[simp] theorem setEdges_pb : (s.setEdges l).pb = s.pb := rfl
@[simp] theorem setEdges_plen : (s.setEdges l).plen = s.plen := rfl
@[simp] theorem setEdges_phase : (s.setEdges l).phase = s.phase := rfl
@[simp] theorem setEdges_rspWord : (s.setEdges l).rspWord = s.rspWord := rfl
@[simp] theorem setEdges_rspTag : (s.setEdges l).rspTag = s.rspTag := rfl
@[simp] theorem setEdges_msgLen : (s.setEdges l).msgLen = s.msgLen := rfl
@[simp] theorem setEdges_cmdWord : (s.setEdges l).cmdWord = s.cmdWord := rfl
@[simp] theorem setEdges_cmdData : (s.setEdges l).cmdData = s.cmdData := rfl
@[simp] theorem setEdges_smpBs : (s.setEdges l).smpBs = s.smpBs := rfl
@[simp] theorem setEdges_smpErr : (s.setEdges l).smpErr = s.smpErr := rfl
@[simp] theorem setEdges_smpErrCode : (s.setEdges l).smpErrCode = s.smpErrCode := rfl
@[simp] theorem setEdges_enc : (s.setEdges l).enc = s.enc := rfl
@[simp] theorem setEdges_wrapper : (s.setEdges l).wrapper = s.wrapper := rfl
@[simp] theorem setEdges_edges : (s.setEdges l).edges = l := rfl

end

section

@[simp] theorem popEdge_configured : (s.popEdge).configured = s.configured := rfl
@[simp] theorem popEdge_bsReg : (s.popEdge).bsReg = s.bsReg := rfl
@[simp] theorem popEdge_k1 : (s.popEdge).k1 = s.k1 := rfl
@[simp] theorem popEdge_k2 : (s.popEdge).k2 = s.k2 := rfl
@[simp] theorem popEdge_x : (s.popEdge).x = s.x := rfl
@[simp] theorem popEdge_pb : (s.popEdge).pb = s.pb := rfl
@[simp] theorem popEdge_plen : (s.popEdge).plen = s.plen := rfl
@[simp] theorem popEdge_phase : (s.popEdge).phase = s.phase := rfl
@[simp] theorem popEdge_rspWord : (s.popEdge).rspWord = s.rspWord := rfl
@[simp] theorem popEdge_rspTag : (s.popEdge).rspTag = s.rspTag := rfl
@[simp] theorem popEdge_msgLen : (s.popEdge).msgLen = s.msgLen := rfl
@[simp] theorem popEdge_cmdWord : (s.popEdge).cmdWord = s.cmdWord := rfl
@[simp] theorem popEdge_cmdData : (s.popEdge).cmdData = s.cmdData := rfl
@[simp] theorem popEdge_smpBs : (s.popEdge).smpBs = s.smpBs := rfl
@[simp] theorem popEdge_smpErr : (s.popEdge).smpErr = s.smpErr := rfl
@[simp] theorem popEdge_smpErrCode : (s.popEdge).smpErrCode = s.smpErrCode := rfl
@[simp] theorem popEdge_enc : (s.popEdge).enc = s.enc := rfl
@[simp] theorem popEdge_wrapper : (s.popEdge).wrapper = s.wrapper := rfl
@[simp] theorem popEdge_edges : (s.popEdge).edges = s.edges.tail := rfl

end

section
variable (c : Cipher)

@[simp] theorem withCipher_configured : (s.withCipher c).configured = s.configured := rfl
@[simp] theorem withCipher_bsReg : (s.withCipher c).bsReg = s.bsReg := rfl
@[simp] theorem withCipher_k1 : (s.withCipher c).k1 = s.k1 := rfl
@[simp] theorem withCipher_k2 : (s.withCipher c).k2 = s.k2 := rfl
@[simp] theorem withCipher_x : (s.withCipher c).x = s.x := rfl
@[simp] theorem withCipher_pb : (s.withCipher c).pb = s.pb := rfl
@[simp] theorem withCipher_plen : (s.withCipher c).plen = s.plen := rfl
@[simp] theorem withCipher_phase : (s.withCipher c).phase = s.phase := rfl
@[simp] theorem withCipher_rspWord : (s.withCipher c).rspWord = s.rspWord := rfl
@[simp] theorem withCipher_rspTag : (s.withCipher c).rspTag = s.rspTag := rfl
@[simp] theorem withCipher_msgLen : (s.withCipher c).msgLen = s.msgLen := rfl
@[simp] theorem withCipher_cmdWord : (s.withCipher c).cmdWord = s.cmdWord := rfl
@[simp] theorem withCipher_cmdData : (s.withCipher c).cmdData = s.cmdData := rfl
@[simp] theorem withCipher_smpBs : (s.withCipher c).smpBs = s.smpBs := rfl
@[simp] theorem withCipher_smpErr : (s.withCipher c).smpErr = s.smpErr := rfl
@[simp] theorem withCipher_smpErrCode : (s.withCipher c).smpErrCode = s.smpErrCode := rfl
@[simp] theorem withCipher_enc : (s.withCipher c).enc = s.enc := rfl
@[simp] theorem withCipher_wrapper : (s.withCipher c).wrapper = { s.wrapper with cipher := c } := rfl
@[simp] theorem withCipher_edges : (s.withCipher c).edges = s.edges := rfl

end

end Sys2Proof.Machine.State
end

