-- ==== Sys2Proof/Laws/Engine.lean ====
section
/-! SUPPORT. What the shared operations of the engine can do, said once: lengths, what APPEND_DRAIN changes, and what a
command leaves alone whatever it is. -/

namespace Sys2Proof.Machine

@[simp] theorem cipherE_length (s : State) (n : Nat) (b : List Byte) : (s.cipherE n b).length = min n 16 := by
  simp [State.cipherE]

@[simp] theorem chain_length (s : State) : s.chain.length = min s.bs 16 := by simp [State.chain]

@[simp] theorem pending_length (s : State) : s.pending.length = min s.plen.toNat 16 := by simp [State.pending]

@[simp] theorem writeData_length (s : State) (n : Nat) : (s.writeData n).length = min n 16 := by simp [State.writeData]

@[simp] theorem buffered_length (s : State) (d : List Byte) :
    (s.buffered d).length = min s.plen.toNat 16 + d.length := by simp [State.buffered]

@[simp] theorem xorLast_length (m : Byte) (l : List Byte) : (xorLast m l).length = l.length := by
  induction l using xorLast.induct with
  | case1 => rfl
  | case2 => rfl
  | case3 b c rest ih => simpa [xorLast] using ih

@[simp] theorem shift1_length (l : List Byte) : (shift1 l).length = l.length := by
  induction l using shift1.induct with
  | case1 => rfl
  | case2 => rfl
  | case3 b c rest ih => simpa [shift1] using ih

@[simp] theorem double_length (b : BlockSize) (v : List Byte) : (double b v).length = v.length := by simp [double]

/-- `select8` selects (R13). -/
theorem select8_eq (c : BitVec 1) (a b : Byte) : select8 c a b = if c = 1 then a else b := by
  have h : c = 0 ∨ c = 1 := by
    rcases Nat.lt_or_ge c.toNat 1 with h0 | h0
    · left; apply BitVec.eq_of_toNat_eq; simp; omega
    · right; apply BitVec.eq_of_toNat_eq; have := c.isLt; simp; omega
  have all : ∀ v : Byte, v &&& 255#8 = v := fun v => BitVec.and_allOnes (x := v)
  rcases h with rfl | rfl <;> simp [select8, mask8, all]

/-- With 0 as the other choice the selection is the AND-mask form of R102. -/
theorem select8_zero (c : BitVec 1) (a : Byte) : select8 c a 0 = a &&& mask8 c := by simp [select8]

/-- APPEND_DRAIN writes X, PB and PLEN and nothing else (R131). -/
theorem appendDrain_eq (s : State) (d : List Byte) :
    s.appendDrain d = { s with
      x := (s.appendDrain d).x, pb := (s.appendDrain d).pb, plen := (s.appendDrain d).plen } := by
  unfold State.appendDrain
  by_cases h : (s.buffered d).length > s.bs <;> simp only [h, if_true, if_false] <;> rfl

/-- APPEND_DRAIN that holds: at most one block is buffered (R131, R132). -/
theorem appendDrain_hold (s : State) (d : List Byte) (h : (s.buffered d).length ≤ s.bs) :
    s.appendDrain d = s.setPending (s.buffered d) := by
  unfold State.appendDrain
  rw [if_neg (by omega)]

/-- APPEND_DRAIN that drains: more than one block is buffered (R131). -/
theorem appendDrain_drain (s : State) (d : List Byte) (h : s.bs < (s.buffered d).length) :
    s.appendDrain d =
      (s.accumulate ((s.buffered d).take s.bs)).setPending ((s.buffered d).drop s.bs) := by
  unfold State.appendDrain
  rw [if_pos h]

/-- What no command changes: the sampled command and the agents on the ports. -/
structure SamePorts (s t : State) : Prop where
  cmdWord : t.cmdWord = s.cmdWord
  cmdData : t.cmdData = s.cmdData
  wrapper : t.wrapper = s.wrapper
  edges   : t.edges = s.edges

/-- Every command, legal or not, ends in PHASE RESPOND with no cipher request left, and leaves the ports alone (R38, R52). -/
theorem runCommand_next (s : State) :
    ∃ t, runCommand s = .next t ∧ t.phase = .respond ∧ t.enc = .start ∧ SamePorts s t := by
  unfold runCommand
  cases decode s.cmdWord with
  | error e => exact ⟨_, rfl, rfl, rfl, by constructor <;> rfl⟩
  | ok i =>
    cases i with
    | init =>
      refine ⟨_, rfl, ?_⟩
      split
      · exact ⟨rfl, rfl, by constructor <;> rfl⟩
      · split <;> exact ⟨rfl, rfl, by constructor <;> rfl⟩
    | write len =>
      refine ⟨_, rfl, ?_⟩
      split
      · exact ⟨rfl, rfl, by constructor <;> rfl⟩
      · split
        · exact ⟨rfl, rfl, by constructor <;> rfl⟩
        · rw [appendDrain_eq]
          exact ⟨rfl, rfl, by constructor <;> rfl⟩
    | finalize =>
      refine ⟨_, rfl, ?_⟩
      split <;> exact ⟨rfl, rfl, by constructor <;> rfl⟩
    | reset =>
      refine ⟨_, rfl, ?_⟩
      split <;> exact ⟨rfl, rfl, by constructor <;> rfl⟩
    | info => exact ⟨_, rfl, rfl, rfl, by constructor <;> rfl⟩

end Sys2Proof.Machine
end

