-- ==== Sys2Proof/Laws/Command.lean ====
section
/-! SUPPORT. What a command can do, said once: one case for each way that R106, R134 to R137 and R182 let it end. -/

namespace Sys2Proof.Machine

/-- The ways the sampled command can take `s` to `t`. -/
inductive CommandEffect (s t : State) : Prop where
  | illegal (e : Illegal) (hd : decode s.cmdWord = .error e) (ht : t = s.raise .illegalCommand 0)
  | initError (hd : decode s.cmdWord = .ok .init) (he : s.smpErr = true)
      (ht : t = s.dropSamples.zeroize.raise .cipherConstructionError s.smpErrCode)
  | initBadSize (hd : decode s.cmdWord = .ok .init) (he : s.smpErr = false) (hb : s.sampledBlockSize = none)
      (ht : t = s.dropSamples.zeroize.raise .invalidBlockSize 0)
  | initDone (b : BlockSize) (hd : decode s.cmdWord = .ok .init) (he : s.smpErr = false)
      (hb : s.sampledBlockSize = some b)
      (ht : t = (s.dropSamples.configure b (s.derive b).1 (s.derive b).2).respond .ok 0 0)
  | notConfigured (i : Instr) (hd : decode s.cmdWord = .ok i) (hc : s.configured = false)
      (hi : (∃ len, i = .write len) ∨ i = .finalize ∨ i = .reset) (ht : t = s.raise .notConfigured 0)
  | tooLong (len : Nat) (hd : decode s.cmdWord = .ok (.write len)) (hc : s.configured = true) (hl : s.bs < len)
      (ht : t = s.raise .illegalLength 0)
  | written (len : Nat) (hd : decode s.cmdWord = .ok (.write len)) (hc : s.configured = true) (hl : len ≤ s.bs)
      (ht : t = ((s.appendDrain (s.writeData len)).countMessage len).respond .ok (BitVec.ofNat 8 len) 0)
  | finalized (hd : decode s.cmdWord = .ok .finalize) (hc : s.configured = true)
      (ht : t = s.respond .ok 0 (blockOfBytes (s.cipherE s.bs s.finalInput)))
  | cleared (hd : decode s.cmdWord = .ok .reset) (hc : s.configured = true)
      (ht : t = s.clearMessage.respond .ok 0 0)
  | reported (hd : decode s.cmdWord = .ok .info) (ht : t = s.respond .ok s.bsReg 0)

theorem execInit_effect (s t : State) (hd : decode s.cmdWord = .ok .init) (h : execInit s = .next t) :
    CommandEffect s t := by
  unfold execInit at h
  cases he : s.smpErr
  · cases hb : s.sampledBlockSize <;> simp only [he, hb] at h <;> cases h
    · exact .initBadSize hd he hb rfl
    · exact .initDone _ hd he hb rfl
  · simp only [he] at h
    cases h
    exact .initError hd he rfl

theorem execWrite_effect (s t : State) (len : Nat) (hd : decode s.cmdWord = .ok (.write len))
    (h : execWrite len s = .next t) : CommandEffect s t := by
  unfold execWrite at h
  cases hc : s.configured
  · rw [if_pos hc] at h
    cases h
    exact .notConfigured _ hd hc (.inl ⟨len, rfl⟩) rfl
  · rw [if_neg (by simp [hc])] at h
    by_cases hl : s.bs < len
    · rw [if_pos hl] at h
      cases h
      exact .tooLong _ hd hc hl rfl
    · rw [if_neg hl] at h
      cases h
      exact .written _ hd hc (by omega) rfl

theorem execFinalize_effect (s t : State) (hd : decode s.cmdWord = .ok .finalize) (h : execFinalize s = .next t) :
    CommandEffect s t := by
  unfold execFinalize at h
  cases hc : s.configured
  · rw [if_pos hc] at h
    cases h
    exact .notConfigured _ hd hc (.inr (.inl rfl)) rfl
  · rw [if_neg (by simp [hc])] at h
    cases h
    exact .finalized hd hc rfl

theorem execReset_effect (s t : State) (hd : decode s.cmdWord = .ok .reset) (h : execReset s = .next t) :
    CommandEffect s t := by
  unfold execReset at h
  cases hc : s.configured
  · rw [if_pos hc] at h
    cases h
    exact .notConfigured _ hd hc (.inr (.inr rfl)) rfl
  · rw [if_neg (by simp [hc])] at h
    cases h
    exact .cleared hd hc rfl

/-- The sampled command ends in one of the ways listed. -/
theorem runCommand_effect (s t : State) (h : runCommand s = .next t) : CommandEffect s t := by
  unfold runCommand at h
  cases hd : decode s.cmdWord with
  | error e =>
    rw [hd] at h
    cases h
    exact .illegal e hd rfl
  | ok i =>
    rw [hd] at h
    cases i with
    | init => exact execInit_effect s t hd h
    | write len => exact execWrite_effect s t len hd h
    | finalize => exact execFinalize_effect s t hd h
    | reset => exact execReset_effect s t hd h
    | info =>
      cases h
      exact .reported hd rfl

/-- INIT alone has read the wrapper pins. -/
theorem wordReadsWrapper_iff (w : Word32) : wordReadsWrapper w = true ↔ decode w = .ok .init := by
  unfold wordReadsWrapper
  cases decode w with
  | error e => simp
  | ok i => cases i <;> simp [readsWrapper]

/-- INIT's samples end with it, and no other command touches them (R37). -/
theorem runCommand_samples (s t : State) (h : runCommand s = .next t) :
    t.smpBs = (if wordReadsWrapper s.cmdWord then 0 else s.smpBs) ∧
    t.smpErr = (if wordReadsWrapper s.cmdWord then false else s.smpErr) ∧
    t.smpErrCode = (if wordReadsWrapper s.cmdWord then 0 else s.smpErrCode) := by
  cases runCommand_effect s t h with
  | notConfigured i hd hc hi ht =>
    subst t
    rcases hi with ⟨len, rfl⟩ | rfl | rfl <;> simp [wordReadsWrapper, readsWrapper, hd]
  | written len hd hc hl ht =>
    subst t
    rw [appendDrain_eq]
    simp [wordReadsWrapper, readsWrapper, hd]
  | _ => subst t; simp_all [wordReadsWrapper, readsWrapper]

end Sys2Proof.Machine
end

