-- ==== Sys2Proof/Laws/Words.lean ====
section
/-! SUPPORT. The fields of a 32-bit word put together from a low byte, a byte above it and an upper part, as command words
(R80) and response words (R89) are. -/

namespace Sys2Proof.Machine

/-- Bits 7..0 of a word so put together. -/
theorem packed_low (a b : Byte) (c : BitVec 16) :
    (a.setWidth 32 ||| b.setWidth 32 <<< 8 ||| c.setWidth 32 <<< 16).extractLsb' 0 8 = a := by
  apply BitVec.eq_of_getLsbD_eq
  intro k hk
  simp only [BitVec.getLsbD_extractLsb', BitVec.getLsbD_or, BitVec.getLsbD_shiftLeft, BitVec.getLsbD_setWidth]
  simp [hk, show k < 32 by omega, show k < 16 by omega]

/-- Bits 15..8. -/
theorem packed_mid (a b : Byte) (c : BitVec 16) :
    (a.setWidth 32 ||| b.setWidth 32 <<< 8 ||| c.setWidth 32 <<< 16).extractLsb' 8 8 = b := by
  apply BitVec.eq_of_getLsbD_eq
  intro k hk
  simp only [BitVec.getLsbD_extractLsb', BitVec.getLsbD_or, BitVec.getLsbD_shiftLeft, BitVec.getLsbD_setWidth]
  rw [BitVec.getLsbD_of_ge a (8 + k) (by omega), show 8 + k - 8 = k by omega]
  simp [hk, show 8 + k < 32 by omega, show 8 + k < 16 by omega, show k < 32 by omega]

/-- Bits 31..16. -/
theorem packed_high (a b : Byte) (c : BitVec 16) :
    (a.setWidth 32 ||| b.setWidth 32 <<< 8 ||| c.setWidth 32 <<< 16).extractLsb' 16 16 = c := by
  apply BitVec.eq_of_getLsbD_eq
  intro k hk
  simp only [BitVec.getLsbD_extractLsb', BitVec.getLsbD_or, BitVec.getLsbD_shiftLeft, BitVec.getLsbD_setWidth]
  rw [BitVec.getLsbD_of_ge a (16 + k) (by omega), BitVec.getLsbD_of_ge b (16 + k - 8) (by omega),
    show 16 + k - 16 = k by omega]
  simp [hk, show 16 + k < 32 by omega, show k < 32 by omega]

/-- Every 32-bit word is put together from its three fields. -/
theorem packed_fields (w : Word32) :
    (w.extractLsb' 0 8).setWidth 32 ||| (w.extractLsb' 8 8).setWidth 32 <<< 8 |||
      (w.extractLsb' 16 16).setWidth 32 <<< 16 = w := by
  apply BitVec.eq_of_getLsbD_eq
  intro k hk
  simp only [BitVec.getLsbD_extractLsb', BitVec.getLsbD_or, BitVec.getLsbD_shiftLeft, BitVec.getLsbD_setWidth]
  by_cases h1 : k < 8
  · simp [hk, h1, show k < 16 by omega]
  · by_cases h2 : k < 16
    · simp [hk, h1, h2, show k - 8 < 8 by omega, show k - 8 < 32 by omega, show 8 + (k - 8) = k by omega]
    · simp [hk, h1, h2, show ¬ k - 8 < 8 by omega, show k - 16 < 16 by omega, show k - 16 < 32 by omega,
        show 16 + (k - 16) = k by omega]

/-- A word without an upper part. -/
theorem packed_zero (w : Word32) : w ||| (0 : BitVec 16).setWidth 32 <<< 16 = w := by simp

/-- The command word's fields (R80, R85). -/
theorem encode_fields (i : Instr) :
    opField (encode i) = i.opcode ∧ lenField (encode i) = i.lenByte ∧ rsvdField (encode i) = 0 := by
  unfold opField lenField rsvdField encode
  rw [← packed_zero (i.opcode.setWidth 32 ||| i.lenByte.setWidth 32 <<< 8)]
  exact ⟨packed_low _ _ _, packed_mid _ _ _, packed_high _ _ _⟩

/-- CONF as an upper part of the response word. -/
theorem confFlag_eq (c : Bool) : confFlag c = ((BitVec.ofBool c).setWidth 16).setWidth 32 <<< 16 := by
  cases c <;> rfl

end Sys2Proof.Machine
end

