-- ==== Sys2Proof/Laws/PerInstr.lean ====
section
/-! SUPPORT. Facts stated for every command as syntax, one lemma per constructor. -/

/-- Layout: the word of a command holds its opcode of R85 in OP, 0 in RSVD, and 0 in LEN unless it is a WRITE (R80, R82,
R83). -/
def Sys2Proof.Laws.Layout.Statement (i : Sys2Proof.Instr) : Prop :=
  Sys2Proof.opField (Sys2Proof.encode i) = i.opcode ∧ Sys2Proof.rsvdField (Sys2Proof.encode i) = 0 ∧
    ((∀ len, i ≠ .write len) → Sys2Proof.lenField (Sys2Proof.encode i) = 0)

namespace Sys2Proof.Laws.Layout

theorem init : Statement .init :=
  have h := Machine.encode_fields .init
  ⟨h.1, h.2.2, fun _ => h.2.1⟩
theorem write (len : Nat) : Statement (.write len) :=
  have h := Machine.encode_fields (.write len)
  ⟨h.1, h.2.2, fun hn => absurd rfl (hn len)⟩
theorem finalize : Statement .finalize :=
  have h := Machine.encode_fields .finalize
  ⟨h.1, h.2.2, fun _ => h.2.1⟩
theorem reset : Statement .reset :=
  have h := Machine.encode_fields .reset
  ⟨h.1, h.2.2, fun _ => h.2.1⟩
theorem info : Statement .info :=
  have h := Machine.encode_fields .info
  ⟨h.1, h.2.2, fun _ => h.2.1⟩

end Sys2Proof.Laws.Layout
end

