-- ==== Sys2Proof/Laws/Step.lean ====
section
/-! SUPPORT. What one rising edge can do, said once. -/

namespace Sys2Proof.Machine

/-- The state an edge without reset works on: its pins used up, the platform's change of the wrapper made. -/
def State.atEdge (s : State) : State := s.popEdge.rewire s.nextEdge.rewire

@[simp] theorem atEdge_edges (s : State) : s.atEdge.edges = s.edges.tail := rfl
@[simp] theorem atEdge_phase (s : State) : s.atEdge.phase = s.phase := rfl
@[simp] theorem atEdge_enc (s : State) : s.atEdge.enc = s.enc := rfl
@[simp] theorem atEdge_cmdWord (s : State) : s.atEdge.cmdWord = s.cmdWord := rfl

/-- A command's request depends on no pin and on no cipher. -/
@[simp] theorem atEdge_request (s : State) : s.atEdge.request = s.request := rfl

/-- The command in progress is held up at the next edge: by the core's own work, or by the wrapper. -/
def State.heldUp (s : State) : Prop :=
  (s.enc = .start ∧ s.nextEdge.coreDone = false) ∨ (s.enc = .request ∧ s.nextEdge.encReqReady = false) ∨
  (s.enc = .await ∧ s.nextEdge.encRspValid = false) ∨ (s.enc = .done ∧ s.nextEdge.coreDone = false)

/-- The ways one rising edge can take `s` to `t`. -/
inductive StepEffect (s t : State) : Prop where
  | reset (hr : s.nextEdge.rstN = false) (ht : t = s.atEdge.hardReset)
  | stayIdle (hr : s.nextEdge.rstN = true) (hp : s.phase = .idle) (hv : s.nextEdge.cmdValid = false)
      (ht : t = s.atEdge)
  | accept (hr : s.nextEdge.rstN = true) (hp : s.phase = .idle) (hv : s.nextEdge.cmdValid = true)
      (ht : t = s.atEdge.accept s.nextEdge)
  | wait (hr : s.nextEdge.rstN = true) (hp : s.phase = .busy)
      (hw : s.illegalRewire s.nextEdge.rewire = false) (he : s.heldUp) (ht : t = s.atEdge)
  | raiseRequest (b : Block) (hr : s.nextEdge.rstN = true) (hp : s.phase = .busy)
      (hw : s.illegalRewire s.nextEdge.rewire = false) (he : s.enc = .start) (hc : s.nextEdge.coreDone = true)
      (hq : s.request = some b) (ht : t = s.atEdge.setEnc .request)
  | requestTaken (hr : s.nextEdge.rstN = true) (hp : s.phase = .busy)
      (hw : s.illegalRewire s.nextEdge.rewire = false) (he : s.enc = .request)
      (hc : s.nextEdge.encReqReady = true) (ht : t = s.atEdge.setEnc .await)
  | answerTaken (hr : s.nextEdge.rstN = true) (hp : s.phase = .busy)
      (hw : s.illegalRewire s.nextEdge.rewire = false) (he : s.enc = .await)
      (hc : s.nextEdge.encRspValid = true) (ht : t = s.atEdge.setEnc .done)
  | complete (hr : s.nextEdge.rstN = true) (hp : s.phase = .busy)
      (hw : s.illegalRewire s.nextEdge.rewire = false) (hc : s.nextEdge.coreDone = true)
      (he : s.enc = .done ∨ (s.enc = .start ∧ s.request = none)) (ht : runCommand s.atEdge = .next t)
  | stayRespond (hr : s.nextEdge.rstN = true) (hp : s.phase = .respond) (hv : s.nextEdge.rspReady = false)
      (ht : t = s.atEdge)
  | responseTaken (hr : s.nextEdge.rstN = true) (hp : s.phase = .respond) (hv : s.nextEdge.rspReady = true)
      (ht : t = s.atEdge.setPhase .idle)

theorem illegalRewire_of_not_busy (s : State) (w : Option Wrapper) (h : s.phase ≠ .busy) :
    s.illegalRewire w = false := by
  cases w <;> simp [State.illegalRewire, h]

theorem step_reset (s : State) (h : s.nextEdge.rstN = false) : step s = .next s.atEdge.hardReset := by
  unfold step clockEdge
  rw [if_pos h]
  rfl

/-- Without reset and without a forbidden change of the wrapper, PHASE says what the edge does. -/
theorem step_run (s : State) (h : s.nextEdge.rstN = true) (hw : s.illegalRewire s.nextEdge.rewire = false) :
    step s =
      match s.phase with
      | .idle => .next (if s.nextEdge.cmdValid then s.atEdge.accept s.nextEdge else s.atEdge)
      | .busy => s.atEdge.busyEdge s.nextEdge
      | .respond => .next (if s.nextEdge.rspReady then s.atEdge.setPhase .idle else s.atEdge) := by
  have hw' : s.popEdge.illegalRewire s.nextEdge.rewire = false := hw
  unfold step clockEdge
  rw [if_neg (by simp [h]), if_neg (by simp [hw'])]
  rfl

theorem step_refused (s : State) (h : s.nextEdge.rstN = true) (hw : s.illegalRewire s.nextEdge.rewire = true) :
    step s = .refused .cipherChangedWhileBusy := by
  have hw' : s.popEdge.illegalRewire s.nextEdge.rewire = true := hw
  unfold step clockEdge
  rw [if_neg (by simp [h]), if_pos hw']

theorem busyEdge_effect (s t : State) (hr : s.nextEdge.rstN = true) (hp : s.phase = .busy)
    (hw : s.illegalRewire s.nextEdge.rewire = false) (h : s.atEdge.busyEdge s.nextEdge = .next t) :
    StepEffect s t := by
  unfold State.busyEdge at h
  cases he : s.enc <;> simp only [atEdge_enc, he] at h
  · split at h
    · rename_i hc
      cases hq : s.request with
      | none => exact .complete hr hp hw hc (.inr ⟨he, hq⟩) (by simpa [hq] using h)
      | some b =>
        simp only [atEdge_request, hq] at h
        cases h
        exact .raiseRequest b hr hp hw he hc hq rfl
    · rename_i hc
      cases h
      exact .wait hr hp hw (.inl ⟨he, by simpa using hc⟩) rfl
  · cases hc : s.nextEdge.encReqReady <;> simp only [hc] at h <;> cases h
    · exact .wait hr hp hw (.inr (.inl ⟨he, hc⟩)) rfl
    · exact .requestTaken hr hp hw he hc rfl
  · cases hc : s.nextEdge.encRspValid <;> simp only [hc] at h <;> cases h
    · exact .wait hr hp hw (.inr (.inr (.inl ⟨he, hc⟩))) rfl
    · exact .answerTaken hr hp hw he hc rfl
  · split at h
    · rename_i hc
      exact .complete hr hp hw hc (.inl he) h
    · rename_i hc
      cases h
      exact .wait hr hp hw (.inr (.inr (.inr ⟨he, by simpa using hc⟩))) rfl

/-- A rising edge does one of the things listed. -/
theorem step_effect (s t : State) (h : step s = .next t) : StepEffect s t := by
  cases hr : s.nextEdge.rstN
  · rw [step_reset s hr] at h
    cases h
    exact .reset hr rfl
  · cases hw : s.illegalRewire s.nextEdge.rewire
    · rw [step_run s hr hw] at h
      cases hp : s.phase <;> simp only [hp] at h
      · cases hv : s.nextEdge.cmdValid <;> simp only [hv] at h <;> cases h
        · exact .stayIdle hr hp hv rfl
        · exact .accept hr hp hv rfl
      · exact busyEdge_effect s t hr hp hw h
      · cases hv : s.nextEdge.rspReady <;> simp only [hv] at h <;> cases h
        · exact .stayRespond hr hp hv rfl
        · exact .responseTaken hr hp hv rfl
    · rw [step_refused s hr hw] at h
      cases h

/-- An accepted command has been sampled, with its cipher request raised at once or not yet (R52). -/
theorem accept_eq (s : State) (e : Edge) :
    ∃ g, (g = .start ∨ (g = .request ∧ (s.sample e.cmdWord e.cmdData).request.isSome = true)) ∧
      s.accept e = (s.sample e.cmdWord e.cmdData).setEnc g := by
  unfold State.accept
  by_cases h : e.coreDone = true ∧ (s.sample e.cmdWord e.cmdData).request.isSome = true
  · exact ⟨.request, .inr ⟨rfl, h.2⟩, if_pos h⟩
  · exact ⟨.start, .inl rfl, if_neg h⟩

end Sys2Proof.Machine
end

