-- ==== Sys2Proof/Tests/Slice0.lean ====
section
/-! SUPPORT. The model's own tests: well-formedness, decoding words written out from R80 and R85, one step per test with the
values of spec/95_test_vectors.md, and for every statement with hypotheses a state and operands that meet them. -/

namespace Sys2Proof.Tests

open Sys2Proof Sys2Proof.Machine

/-! ## Helpers -/

/-- The next state, if there is one. -/
def nextOf : Host.Outcome State Fault Refusal → Option State
  | .next t => some t
  | .fault _ => none
  | .refused _ => none

/-- The test cipher `E_C(b) = b ^ C` of spec/95_test_vectors.md on the listed blocks. -/
def maskCipher (c : Block) (blocks : List Block) : Cipher := { key := 0, known := blocks.map fun b => (b, b ^^^ c) }

/-- A wrapper that reports block size `bs` and no error. -/
def wrapperOf (bs : Byte) (c : Cipher) : Wrapper := { cipherBs := bs, cipherErr := false, cipherErrCode := 0, cipher := c }

/-- INIT's samples of that wrapper are in place. -/
def sampledState (w : Wrapper) : State :=
  { State.reset with wrapper := w, smpBs := w.cipherBs, smpErr := w.cipherErr, smpErrCode := w.cipherErrCode }

/-- The mask C16 of spec/95_test_vectors.md. -/
def c16 : Block := 0x80000000000000000000000000000000

/-- The toy message's first sixteen bytes, t[0:16]. -/
def toyBlock : Block := 0x0102030405060708090a0b0c0d0e0f10

/-- The state after INIT with E_C16 (V-INIT-2), its cipher fixed on `blocks`. -/
def toy16 (blocks : List Block) : State :=
  { State.reset with
    configured := true, bsReg := 16, k1 := 0x87, k2 := 0x10e, wrapper := wrapperOf 16 (maskCipher c16 blocks) }

/-- The state after INIT with E_C8 (V-INIT-6), its cipher fixed on `blocks`. -/
def toy8 (blocks : List Block) : State :=
  { State.reset with
    configured := true, bsReg := 8, k1 := 0x000000000000001b0000000000000000, k2 := 0x00000000000000360000000000000000,
    wrapper := wrapperOf 8 (maskCipher c16 blocks) }

/-- `toy16` with `n` pending bytes `p` and chaining value `x`. -/
def holding16 (blocks : List Block) (x p : Block) (n : BitVec 5) : State :=
  { toy16 blocks with x := x, pb := p, plen := n, msgLen := n.toNat }

/-! ## Well-formedness and decoding -/

/-- LEN has eight bits (R82). -/
theorem test_length_256_is_ill_formed : (Instr.write 256).wellFormed = false := by decide

theorem test_length_255_is_well_formed : (Instr.write 255).wellFormed = true := by decide

/-- R80, R85: RSVD 0, LEN 0, OP 0x01. -/
theorem test_decode_init : decode 0b00000000000000000000000000000001 = .ok .init := by decide

/-- R80, R85: RSVD 0, LEN 0x10, OP 0x02 (V-DEC-5). -/
theorem test_decode_write : decode 0b00000000000000000001000000000010 = .ok (.write 16) := by decide

/-- R82: LEN is never sign-extended (V-DEC-7). -/
theorem test_decode_write_longest : decode 0b00000000000000001111111100000010 = .ok (.write 255) := by decide

/-- R80, R85: OP 0x03. -/
theorem test_decode_finalize : decode 0b00000000000000000000000000000011 = .ok .finalize := by decide

/-- R80, R85: OP 0x04. -/
theorem test_decode_reset : decode 0b00000000000000000000000000000100 = .ok .reset := by decide

/-- R80, R85: OP 0x05. -/
theorem test_decode_info : decode 0b00000000000000000000000000000101 = .ok .info := by decide

/-- V-DEC-1, -3, -8, -9, -13, -14, -15 and a RESET with LEN 1 (P4, step 9): none decodes. -/
theorem test_decode_illegal :
    decode 0x00000000 = .error .reservedOpcode ∧ decode 0x00000101 = .error .lengthNotZero ∧
    decode 0x00010002 = .error .reservedBitsSet ∧ decode 0x80000003 = .error .reservedBitsSet ∧
    decode 0x00000006 = .error .reservedOpcode ∧ decode 0x000000ff = .error .reservedOpcode ∧
    decode 0x00000805 = .error .lengthNotZero ∧ decode 0x00000104 = .error .lengthNotZero := by decide

/-- R85's words. -/
theorem test_encode_words :
    encode .init = 0x00000001 ∧ encode (.write 16) = 0x00001002 ∧ encode .finalize = 0x00000003 ∧
    encode .reset = 0x00000004 ∧ encode .info = 0x00000005 := by decide

/-- The table's row WRITE with its L bits at 8. -/
theorem test_table_word : decodeTableWord 32 0x00000802 = some (.write 8) := by decide

/-! ## The doubler and INIT -/

/-- V-DBL-2, -4, -7, -10: the reduction, a carry into every byte, a carry across a byte boundary. -/
theorem test_double_16 :
    [0x80000000000000000000000000000000, 0xffffffffffffffffffffffffffffffff, 0x00800000000000000000000000000000,
      0xc0000000000000000000000000000000].map (fun v => blockOfBytes (double .b16 (blockBytes v))) =
    [0x00000000000000000000000000000087, 0xffffffffffffffffffffffffffffff79, 0x01000000000000000000000000000000,
      0x80000000000000000000000000000087] := by decide

/-- V-DBL-12, -14, -15, -20. -/
theorem test_double_8 :
    [[0x80, 0, 0, 0, 0, 0, 0, 0], [0xff, 0xff, 0xff, 0xff, 0xff, 0xff, 0xff, 0xff],
      [0x7f, 0xff, 0xff, 0xff, 0xff, 0xff, 0xff, 0xff], [0xc0, 0, 0, 0, 0, 0, 0, 0]].map (double .b8) =
    [[0, 0, 0, 0, 0, 0, 0, 0x1b], [0xff, 0xff, 0xff, 0xff, 0xff, 0xff, 0xff, 0xe5],
      [0xff, 0xff, 0xff, 0xff, 0xff, 0xff, 0xff, 0xfe], [0x80, 0, 0, 0, 0, 0, 0, 0x1b]] := by decide

/-- V-RFC-0: AES-128's L is the one fixed answer. -/
theorem test_init_rfc :
    (nextOf (exec .init (sampledState
      (wrapperOf 16 { key := 0, known := [(0, 0x7df76b0c1ab899b33e42f047b91b546f)] })))).map
        (fun t => (t.k1, t.k2, t.rspWord)) =
    some (0xfbeed618357133667c85e08f7236a8de, 0xf7ddac306ae266ccf90bc11ee46d513b, 0x00010000) := by decide

/-- V-INIT-13: the construction error comes first and its code is in COUNT. -/
theorem test_init_error_first :
    (nextOf (exec .init { toy16 [] with smpBs := 12, smpErr := true, smpErrCode := 0x05 })).map
      (fun t => (t.rspWord, t.configured, t.k1)) = some (0x00000511, false, 0) := by decide

/-! ## WRITE, FINALIZE, RESET, INFO -/

/-- V-WR-5: 5 bytes pending and 12 more: one block goes to the cipher and one byte stays. -/
theorem test_write_drains :
    (nextOf (exec (.write 12)
      { holding16 [toyBlock] 0 0x01020304050000000000000000000000 5 with
        cmdData := 0x060708090a0b0c0d0e0f101100000000 })).map (fun t => (t.x, t.pb, t.plen)) =
    some (0x8102030405060708090a0b0c0d0e0f10, 0x11000000000000000000000000000000, 1) := by decide

/-- V-WR-11: the lanes from LEN on reach nothing. -/
theorem test_write_ignores_lanes :
    (nextOf (exec (.write 1) { toy16 [] with cmdData := 0xaaffffffffffffffffffffffffffffff })).map
      (fun t => (t.pb, t.plen, t.rspWord)) = some (0xaa000000000000000000000000000000, 1, 0x00010100) := by decide

/-- V-RFC-2: a complete last block goes with K1; AES-128's last answer is the tag. -/
theorem test_finalize_rfc :
    (nextOf (exec .finalize
      { State.reset with
        configured := true, bsReg := 16, k1 := 0xfbeed618357133667c85e08f7236a8de,
        k2 := 0xf7ddac306ae266ccf90bc11ee46d513b, pb := 0x6bc1bee22e409f96e93d7e117393172a, plen := 16,
        wrapper := wrapperOf 16 { key := 0, known :=
          [(0x902f68fa1b31acf095b89e9e01a5bff4, 0x070a16b46b4d4144f79bdd9dd04a287c)] } })).map
        (fun t => (t.rspWord, t.rspTag)) = some (0x00010000, 0x070a16b46b4d4144f79bdd9dd04a287c) := by decide

/-- V-MAC8-7: seven bytes of eight: one 0x80 byte, K2, and a tag in lanes 0 to 7 alone. -/
theorem test_finalize_pads :
    (nextOf (exec .finalize
      { toy8 [0x01020304050607b60000000000000000] with pb := 0x01020304050607000000000000000000, plen := 7 })).map
        (fun t => (t.rspTag, t.plen)) = some (0x81020304050607b60000000000000000, 7) := by decide

/-- V-RST-1. -/
theorem test_reset_keeps_subkeys :
    (nextOf (exec .reset
      { toy16 [] with x := 0x8102030405060708090a0b0c0d0e0f10, pb := 0x11000000000000000000000000000000, plen := 1 })).map
        (fun t => (t.x, t.pb, t.plen, t.k1, t.rspWord)) = some (0, 0, 0, 0x87, 0x00010000) := by decide

/-- V-DEC-11 after hardware reset. -/
theorem test_reset_not_configured :
    (nextOf (exec .reset State.reset)).map (fun t => (t.rspWord, t.configured)) = some (0x00000002, false) := by decide

/-- V-INFO-3 and V-INFO-4: the instance's block size, not the wrapper's. -/
theorem test_info_reports_instance :
    (nextOf (exec .info { toy8 [] with wrapper := wrapperOf 16 (maskCipher c16 []) })).map (fun t => t.rspWord) =
      some 0x00010800 := by decide

/-- V-INFO-1. -/
theorem test_info_after_reset : (nextOf (exec .info State.reset)).map (fun t => t.rspWord) = some 0 := by decide

/-- V-ERR-1: LEN 17 on a configured core with five bytes pending. -/
theorem test_long_write :
    (nextOf (runCommand { holding16 [] 0 0x01020304050000000000000000000000 5 with cmdWord := 0x00001102 })).map
      (fun t => (t.rspWord, t.plen)) = some (0x00010003, 5) := by decide

/-- V-ERR-2: an illegal word keeps CONF. -/
theorem test_illegal_word :
    (nextOf (runCommand { toy16 [] with cmdWord := 0x00010003 })).map (fun t => (t.rspWord, t.configured)) =
      some (0x00010001, true) := by decide

/-! ## One clock edge -/

/-- R52: the accepting edge samples the command and changes no register of the engine. -/
theorem test_accepting_edge :
    (nextOf (step ((toy16 []).setEdges [{ Edge.quiet with cmdValid := true, cmdWord := 0x00000004 }]))).map
      (fun t => (t.phase, t.cmdWord, t.enc)) = some (.busy, 0x00000004, .start) := by decide

/-- An edge that presents `w` just as the wrapper reports block size 16 and leaves a stale error code on its pins. -/
def presenting (w : Word32) : Edge :=
  { Edge.quiet with
    cmdValid := true, cmdWord := w, rewire := some { wrapperOf 16 (maskCipher c16 []) with cipherErrCode := 7 } }

/-- R37, R137: the accepting edge of INFO samples no wrapper pin, that of INIT samples them, but no code without an error (R55). -/
theorem test_only_init_samples :
    [0x00000005, 0x00000001].map (fun w =>
      (nextOf (step (State.reset.setEdges [presenting w]))).map fun t => (t.smpBs, t.smpErr, t.smpErrCode)) =
    [some (0, false, 0), some (16, false, 0)] := by decide

/-- R37: after INIT the core keeps BS_REG and no sample. -/
theorem test_init_keeps_only_bs_reg :
    (nextOf (exec .init (sampledState (wrapperOf 8 { key := 0, known := [(0, 0)] })))).map (fun t => (t.bsReg, t.smpBs)) =
      some (8, 0) := by decide

/-- R210, R212: reset in the middle of a command. -/
theorem test_hardware_reset :
    (nextOf (step (((toy16 []).setPhase .busy).setEdges [{ Edge.quiet with rstN := false }]))).map
      (fun t => (t.phase, t.configured, t.k1)) = some (.idle, false, 0) := by decide

/-- R57: FINALIZE's request on the bus, V-MAC8-7, lanes 8 to 15 zero. -/
theorem test_request_on_the_bus :
    ({ toy8 [] with
        pb := 0x01020304050607000000000000000000, plen := 7, cmdWord := 0x00000003, phase := .busy,
        enc := .request }).outputs.encReqData = some 0x01020304050607b60000000000000000 := by decide

/-- V-FIN-3 on the pins: the word and the tag that the host takes, lanes 8 to 15 of the tag zero. -/
theorem test_response_on_the_pins :
    ({ toy8 [] with
        phase := .respond, rspWord := 0x00010000, rspTag := 0x81020304050607130000000000000000,
        edges := [Edge.ready] }).taken =
      some { status := 0x00, count := 0, conf := true, tag := 0x81020304050607130000000000000000 } := by decide

/-- The placed word of INFO runs in the very next step. -/
theorem test_placed_word_runs :
    (nextOf (step (State.reset.withFetchWord 32 0x00000005))).map (fun t => (t.phase, t.rspWord)) =
      some (.respond, 0) := by decide

/-- R92: `WRITE` with three bytes. -/
theorem test_line_of_write :
    (Line.write [0xaa, 0xbb, 0xcc]).command = (0x00000302, 0xaabbcc00000000000000000000000000) := by decide

/-! ## Witnesses: each statement's hypotheses are met, each clause at a boundary of its range -/

/-- DecodeOfEncode: every constructor, WRITE at both ends of LEN. -/
theorem witness_DecodeOfEncode :
    ∀ i ∈ [Instr.init, .write 0, .write 255, .finalize, .reset, .info], i.wellFormed = true := by decide

/-- EncodeOfDecode. -/
theorem witness_EncodeOfDecode : decode 0x0000ff02 = .ok (.write 255) ∧ decode 0x00000005 = .ok .info := by decide

/-- OpcodeMap: both ends of LEN and of the reserved opcodes. -/
theorem witness_OpcodeMap :
    decode (0x00000002 ||| BitVec.ofNat 32 0 <<< 8) = .ok (.write 0) ∧
    decode (0x00000002 ||| BitVec.ofNat 32 255 <<< 8) = .ok (.write 255) ∧
    decode (BitVec.ofNat 32 0) = .error .reservedOpcode ∧ decode (BitVec.ofNat 32 6) = .error .reservedOpcode ∧
    decode (BitVec.ofNat 32 255) = .error .reservedOpcode := by decide

/-- IllegalWordsExactly and IllegalWordAnswersIllegalCommand: each clause of R86, and a legal word. -/
theorem witness_illegalWord :
    illegalWord 0x00000000 ∧ illegalWord 0x00000006 ∧ illegalWord 0x000000ff ∧ illegalWord 0x00010002 ∧
    illegalWord 0x80000003 ∧ illegalWord 0x00000101 ∧ illegalWord 0x0000ff05 ∧ ¬illegalWord 0x0000ff02 ∧
    ¬illegalWord 0x00000005 := by unfold illegalWord; and_intros <;> decide

/-- A state at whose next edge the command in progress completes. -/
def completing (e : EncStage) (w : Word32) : State :=
  { toy16 [] with phase := .busy, enc := e, cmdWord := w, edges := [Edge.finish] }

/-- StepRunsTheDecodedCommand: after the cipher's answer, and without a request. -/
theorem witness_StepRunsTheDecodedCommand :
    (∀ s ∈ [completing .done 0x00000003, completing .start 0x00000005],
      s.phase = .busy ∧ s.nextEdge.rstN = true ∧ s.nextEdge.coreDone = true ∧
      s.illegalRewire s.nextEdge.rewire = false) ∧
    (completing .start 0x00000005).request = none ∧
    decode (completing .done 0x00000003).cmdWord = .ok .finalize ∧
    decode (completing .start 0x00000005).cmdWord = .ok .info := by decide

/-- PlacedWordRunsNext. -/
theorem witness_PlacedWordRunsNext :
    decodeTableWord 32 0x00000001 = some .init ∧ decodeTableWord 32 0x0000ff02 = some (.write 255) ∧
    decodeTableWord 8 0x03 = some .finalize := by decide

/-- ProgramsRunAsIssued and EveryCommandIsAnsweredOnce. -/
theorem witness_ProgramsRunAsIssued :
    ∃ (cs : List (Word32 × Block)) (s : State) (rest : List Edge),
      s.phase = .idle ∧ s.edges = cs.flatMap commandEdges ++ rest ∧ cs.length = 2 :=
  ⟨[(0x00000001, 0), (0x00000003, 0)],
    (toy16 []).setEdges ([(0x00000001, 0), (0x00000003, 0)].flatMap commandEdges ++ [Edge.quiet]), [Edge.quiet],
    rfl, rfl, rfl⟩

/-- InitConstructsAnInstance: both block sizes. -/
theorem witness_InitConstructsAnInstance :
    ∀ b ∈ [BlockSize.b8, .b16],
      (sampledState (wrapperOf (BitVec.ofNat 8 (blockLen b)) (maskCipher c16 []))).smpErr = false ∧
      (sampledState (wrapperOf (BitVec.ofNat 8 (blockLen b)) (maskCipher c16 []))).smpBs =
        BitVec.ofNat 8 (blockLen b) := by decide

/-- InitRejectsOtherBlockSizes: next to the legal sizes, and the ends. -/
theorem witness_InitRejectsOtherBlockSizes :
    ∀ bs ∈ [(0 : Byte), 7, 9, 15, 17, 255],
      (sampledState (wrapperOf bs (maskCipher c16 []))).smpErr = false ∧ bs ≠ 8 ∧ bs ≠ 16 := by decide

/-- InitReportsCipherError. -/
theorem witness_InitReportsCipherError : { toy16 [] with smpErr := true, smpErrCode := 0xff }.smpErr = true := by decide

/-- DoubleOnIntegers. -/
theorem witness_DoubleOnIntegers :
    (List.replicate 8 (0xff : Byte)).length = blockLen .b8 ∧ (blockBytes c16).length = blockLen .b16 := by decide

/-- SubkeysWrittenOnlyByInitOrReset: a hardware reset and an INIT that change K1. -/
theorem witness_SubkeysWrittenOnlyByInitOrReset :
    (∃ s t : State, step s = .next t ∧ t.k1 ≠ s.k1 ∧ s.nextEdge.rstN = false) ∧
    ∃ s t : State, step s = .next t ∧ t.k1 ≠ s.k1 ∧ s.nextEdge.rstN = true :=
  ⟨⟨(toy16 []).setEdges [{ Edge.quiet with rstN := false }], _, rfl, by decide, rfl⟩,
    ⟨{ completing .done 0x00000001 with smpErr := true }, _, rfl, by decide, rfl⟩⟩

/-- InitAndResetAreIdempotent: both commands on a configured core. -/
theorem witness_InitAndResetAreIdempotent :
    (decode 0x00000001 = .ok .init ∧ ∃ t, issue (0x00000001, 0) (toy16 []) = .next t) ∧
    decode 0x00000004 = .ok .reset ∧ ∃ t, issue (0x00000004, 0) (toy16 []) = .next t :=
  ⟨⟨by decide, _, rfl⟩, by decide, _, rfl⟩

/-- The invariant holds of a state with a full block pending and one with a single byte. -/
theorem witness_EngineInv :
    (holding16 [] 0 toyBlock 16).EngineInv ∧
    (holding16 [] 0x8102030405060708090a0b0c0d0e0f10 0x11000000000000000000000000000000 1).EngineInv ∧
    (holding16 [] 0 0 0).EngineInv ∧ (toy8 []).EngineInv := by
  unfold State.EngineInv; and_intros <;> decide

/-- WriteHoldsUpToOneBlock, WriteDrainsOneBlock, LongWriteAnswersIllegalLength: the lengths on both sides of each bound. -/
theorem witness_writes :
    (holding16 [] 0 0 0).configured = true ∧ (holding16 [] 0 toyBlock 16).configured = true ∧
    (holding16 [] 0 0 0).plen.toNat + 16 ≤ (holding16 [] 0 0 0).bsReg.toNat ∧
    (holding16 [] 0 toyBlock 16).plen.toNat + 0 ≤ (holding16 [] 0 toyBlock 16).bsReg.toNat ∧
    (1 ≤ (holding16 [] 0 toyBlock 16).bsReg.toNat ∧
      (holding16 [] 0 toyBlock 16).bsReg.toNat < (holding16 [] 0 toyBlock 16).plen.toNat + 1) ∧
    (16 ≤ (holding16 [] 0 toyBlock 16).bsReg.toNat ∧
      (holding16 [] 0 toyBlock 16).bsReg.toNat < (holding16 [] 0 toyBlock 16).plen.toNat + 16) ∧
    (holding16 [] 0 0 0).bsReg.toNat < 17 := by decide

/-- NoInstanceAnswersNotConfigured. -/
theorem witness_NoInstanceAnswersNotConfigured : State.reset.configured = false := by decide

/-- UnusedDataLanesAreIgnored: a WRITE of one byte under other data, and FINALIZE. -/
theorem witness_UnusedDataLanesAreIgnored :
    (∀ k, k < 1 → k < 16 →
      lane 0xaaffffffffffffffffffffffffffffff k = lane 0xaa000000000000000000000000000000 k) ∧
    (∃ t, exec (.write 1) { toy16 [] with cmdData := 0xaa000000000000000000000000000000 } = .next t) ∧
    ∃ t, exec .finalize (toy16 []) = .next t :=
  ⟨by decide, ⟨_, rfl⟩, ⟨_, rfl⟩⟩

/-- FinalizeProducesTheTag: a full block, and an empty and an almost full buffer. -/
theorem witness_FinalizeProducesTheTag :
    (holding16 [] 0 toyBlock 16).EngineInv ∧ (holding16 [] 0 toyBlock 16).configured = true ∧
    (holding16 [] 0 toyBlock 16).plen.toNat = (holding16 [] 0 toyBlock 16).bsReg.toNat ∧
    (holding16 [] 0 0x0102030405060708090a0b0c0d0e0f00 15).EngineInv ∧
    (holding16 [] 0 0x0102030405060708090a0b0c0d0e0f00 15).plen.toNat <
      (holding16 [] 0 0x0102030405060708090a0b0c0d0e0f00 15).bsReg.toNat ∧
    (holding16 [] 0 0 0).plen.toNat < (holding16 [] 0 0 0).bsReg.toNat := by
  unfold State.EngineInv; and_intros <;> decide

/-- FinalizeMayBeRepeated: an INFO and an illegal word in between. -/
theorem witness_FinalizeMayBeRepeated :
    ∃ (cs : List (Word32 × Block)) (s t u v : State),
      (∀ c ∈ cs, decode c.1 ≠ .ok .init ∧ decode c.1 ≠ .ok .reset ∧ ∀ len, decode c.1 ≠ .ok (.write len)) ∧
      exec .finalize s = .next t ∧ issueAll cs t = .next u ∧ exec .finalize u = .next v ∧ cs.length = 2 := by
  refine ⟨[(0x00000005, 0), (0x00000000, 0)], holding16 [] 0 toyBlock 16, _, _, _, ?_, rfl, rfl, rfl, rfl⟩
  intro c hc
  have d1 : decode 0x00000005 = .ok .info := by decide
  have d2 : decode 0x00000000 = .error .reservedOpcode := by decide
  simp only [List.mem_cons, List.not_mem_nil, or_false] at hc
  rcases hc with rfl | rfl
  · exact ⟨fun h => (nomatch d1.symm.trans h), fun h => (nomatch d1.symm.trans h),
      fun _ h => (nomatch d1.symm.trans h)⟩
  · exact ⟨fun h => (nomatch d2.symm.trans h), fun h => (nomatch d2.symm.trans h),
      fun _ h => (nomatch d2.symm.trans h)⟩

/-- ResetEmptiesTheMessage: a full block held. -/
theorem witness_ResetEmptiesTheMessage :
    (holding16 [] 0 toyBlock 16).configured = true ∧ (holding16 [] 0 toyBlock 16).plen = 16 := by decide

/-- The status of what a sampled word does in a state. -/
def statusOf (w : Word32) (s : State) : Option Byte :=
  (nextOf (runCommand { s with cmdWord := w })).map fun t => statusField t.rspWord

/-- ResponseWordFields, CountPerCommand, StatusPriority, ErrorEffects, TagOnlyFromFinalize: `runCommand` goes on with each of
the six statuses. -/
theorem witness_statuses :
    statusOf 0x00000005 (toy16 []) = some 0x00 ∧ statusOf 0x00000000 (toy16 []) = some 0x01 ∧
    statusOf 0x00000002 State.reset = some 0x02 ∧ statusOf 0x00001102 (toy16 []) = some 0x03 ∧
    statusOf 0x00000001 (toy16 []) = some 0x10 ∧ statusOf 0x00000001 { toy16 [] with smpErr := true } = some 0x11 := by
  decide

/-- PhaseOrder: one edge in each phase that moves on, and one that stays. -/
theorem witness_PhaseOrder :
    ((nextOf (step ((toy16 []).setEdges [{ Edge.quiet with cmdValid := true }]))).map State.phase = some .busy) ∧
    ((nextOf (step (toy16 []))).map State.phase = some .idle) ∧
    ((nextOf (step (completing .start 0x00000005))).map State.phase = some .respond) ∧
    ((nextOf (step (completing .await 0x00000003))).map State.phase = some .busy) ∧
    ((nextOf (step (((toy16 []).setPhase .respond).setEdges [Edge.ready]))).map State.phase = some .idle) ∧
    ((nextOf (step ((toy16 []).setPhase .respond))).map State.phase = some .respond) := by decide

/-- AcceptingEdge. -/
theorem witness_AcceptingEdge :
    ((toy16 []).setEdges [{ Edge.quiet with cmdValid := true }]).phase = .idle ∧
    ((toy16 []).setEdges [{ Edge.quiet with cmdValid := true }]).nextEdge.rstN = true ∧
    ((toy16 []).setEdges [{ Edge.quiet with cmdValid := true }]).nextEdge.cmdValid = true := by decide

/-- OnlyCompletionChangesRegisters: an accepting edge, and one that neither accepts nor completes. -/
theorem witness_OnlyCompletionChangesRegisters :
    (∃ s t : State, s.nextEdge.rstN = true ∧ step s = .next t ∧ ¬(s.phase = .busy ∧ t.phase = .respond) ∧
      s.phase = .idle ∧ s.nextEdge.cmdValid = true) ∧
    ∃ s t : State, s.nextEdge.rstN = true ∧ step s = .next t ∧ ¬(s.phase = .busy ∧ t.phase = .respond) ∧
      ¬(s.phase = .idle ∧ s.nextEdge.cmdValid = true) :=
  ⟨⟨(toy16 []).setEdges [{ Edge.quiet with cmdValid := true }], _, rfl, rfl, by decide, rfl, rfl⟩,
    ⟨completing .await 0x00000003, _, rfl, rfl, by decide, by decide⟩⟩

/-- OutputPins: a state for each valid and ready output at 1, and each bus with and without its valid. -/
theorem witness_OutputPins :
    (toy16 []).outputs.cmdReady = true ∧
    ((toy16 []).setPhase .respond).outputs.rspValid = true ∧ (toy16 []).outputs.rspValid = false ∧
    (completing .request 0x00000003).outputs.encReqValid = true ∧
    (completing .await 0x00000003).outputs.encReqValid = false ∧
    (completing .await 0x00000003).outputs.encRspReady = true ∧
    (((toy16 []).setPhase .respond).setEdges [{ Edge.quiet with rstN := false }]).outputs.rspValid = false := by decide

/-- CommandsWaitForReady: a command in progress, a response presented, and the core in reset. -/
theorem witness_CommandsWaitForReady :
    (completing .await 0x00000003).outputs.cmdReady = false ∧
    (((toy16 []).setPhase .respond).setEdges [Edge.ready]).outputs.cmdReady = false ∧
    ((toy16 []).setEdges [{ Edge.quiet with rstN := false }]).outputs.cmdReady = false := by decide

/-- The invariant of a state that waits in a FINALIZE at stage `e`. -/
theorem witness_Inv :
    ∀ e ∈ [EncStage.start, .request, .await, .done], ({ holding16 [] 0 toyBlock 16 with
      phase := .busy, enc := e, cmdWord := 0x00000003, rspWord := 0x00010000, edges := [Edge.ready] } : State).Inv := by
  have st : ∃ st : Status, statusField 0x00010000 = st.code := ⟨.ok, by decide⟩
  unfold State.Inv State.EngineInv State.ResponseInv State.HandshakeInv State.SampleInv
  intro e he
  simp only [List.mem_cons, List.not_mem_nil, or_false] at he
  rcases he with rfl | rfl | rfl | rfl <;>
    exact ⟨by decide, ⟨by decide, by decide, st, by decide, by decide⟩, by decide, by decide⟩

/-- StepKeepsInvariant, and RequestStages with it: the invariant and a next state together, where the request is taken, where the
answer is, and where the command completes. -/
theorem witness_StepKeepsInvariant :
    ∀ e ∈ [EncStage.request, .await, .done], ∃ s t : State, s.Inv ∧ s.enc = e ∧ s.nextEdge.rstN = true ∧
      step s = .next t := by
  intro e he
  simp only [List.mem_cons, List.not_mem_nil, or_false] at he
  rcases he with rfl | rfl | rfl
  · exact ⟨_, _, witness_Inv .request (by decide), rfl, rfl, rfl⟩
  · exact ⟨_, _, witness_Inv .await (by decide), rfl, rfl, rfl⟩
  · exact ⟨_, _, witness_Inv .done (by decide), rfl, rfl, rfl⟩

/-- CipherHandshake: each clause's output, the stage before the request, and a legal change of `cipher_err`. -/
theorem witness_CipherHandshake :
    (completing .start 0x00000003).request.isSome = true ∧ (completing .start 0x00000003).phase = .busy ∧
    (completing .request 0x00000003).outputs.encReqValid = true ∧
    (completing .await 0x00000003).outputs.encRspReady = true ∧
    (completing .done 0x00000003).outputs.encRspReady = false ∧
    (completing .await 0x00000003).illegalRewire
      (some { (completing .await 0x00000003).wrapper with cipherErr := true, cipherErrCode := 7 }) = false := by decide

/-- RequestStages: edges that lead into each stage, and the way out of the last. -/
theorem witness_RequestStages :
    (∀ e ∈ [EncStage.start, .request, .await],
      ({ completing e 0x00000003 with edges := [Edge.ready] } : State).nextEdge.rstN = true) ∧
    [EncStage.start, .request, .await, .done].map (fun e =>
      (nextOf (step { completing e 0x00000003 with edges := [Edge.ready] })).map State.enc) =
    [some .request, some .await, some .done, some .start] := by decide

/-- RequestsOnThePort: FINALIZE from its accepting edge to its response. -/
theorem witness_RequestsOnThePort :
    ∃ s a t : State, s.phase = .idle ∧ s.nextEdge.rstN = true ∧ s.nextEdge.cmdValid = true ∧ step s = .next a ∧
      staysBusy 3 a ∧ runEdges 3 a = .next t ∧ t.phase = .respond ∧ a.request.isSome = true := by
  refine ⟨(toy16 []).setEdges (commandEdges (0x00000003, 0)), _, _, rfl, rfl, rfl, rfl, ?_, rfl, rfl, by decide⟩
  refine ⟨rfl, rfl, fun t h => ?_⟩
  cases (h : Host.Outcome.next _ = _)
  refine ⟨rfl, rfl, fun t h => ?_⟩
  cases (h : Host.Outcome.next _ = _)
  exact ⟨rfl, rfl, fun t _ => trivial⟩

/-- SilentCipherHangs: a wrapper that takes the request and never answers. -/
theorem witness_SilentCipherHangs :
    1 ≤ (completing .await 0x00000003).edges.length ∧
    (completing .await 0x00000003).phase = .busy ∧ (completing .await 0x00000003).enc = .await ∧
    ∀ e ∈ (completing .await 0x00000003).edges, e.rstN = true ∧ e.encRspValid = false ∧ e.rewire = none := by decide

/-- RequestsPerCommand: an error status, an illegal word and a word that decodes are among what its last clauses speak of. -/
theorem witness_RequestsPerCommand :
    (nextOf (exec (.write 17) (toy16 []))).map (fun t => statusField t.rspWord) = some 0x03 ∧
    (completing .start 0x00010003).request = none ∧ decode (completing .start 0x00000003).cmdWord = .ok .finalize := by
  decide

/-- OnlyTheRequestedBlockMatters: two ciphers whose answers to the block of FINALIZE differ, in lanes 8 to 15 alone. -/
theorem witness_OnlyTheRequestedBlockMatters :
    ∃ (s t : State) (c : Cipher) (q : Block), c.encrypt q ≠ s.wrapper.cipher.encrypt q ∧
      (∀ b, commandRequest .finalize s = some b → blockOfBytes b = q ∧ ∀ k, k < b.length →
        lane (c.encrypt (blockOfBytes b)) k = lane (s.wrapper.cipher.encrypt (blockOfBytes b)) k) ∧
      exec .finalize s = .next t := by
  refine ⟨toy8 [0x80000000000000360000000000000000], _,
    { key := 0, known := [(0x80000000000000360000000000000000, 0x0000000000000036ffffffffffffffff)] },
    0x80000000000000360000000000000000, by decide, ?_, rfl⟩
  have h : commandRequest .finalize (toy8 [0x80000000000000360000000000000000]) =
      some [0x80, 0, 0, 0, 0, 0, 0, 0x36] := by decide
  intro b hb
  rw [h] at hb
  cases hb
  exact ⟨by decide, by decide⟩

/-- WrapperChangesBetweenCommands: a change between commands, and one of the cipher and one of `cipher_bs` during one. -/
theorem witness_WrapperChangesBetweenCommands :
    ((toy16 []).setEdges [{ Edge.quiet with rewire := some (wrapperOf 8 (maskCipher c16 [])) }]).nextEdge.rewire =
      some (wrapperOf 8 (maskCipher c16 [])) ∧
    (toy16 []).phase ≠ .busy ∧
    (wrapperOf 8 (maskCipher c16 [])).cipherBs ≠ (completing .await 0x00000003).wrapper.cipherBs ∧
    maskCipher 1 [0] ≠ (completing .await 0x00000003).wrapper.cipher := by decide

/-- WrapperPinsMatterOnlyToInit: INIT and another command go on, and so does a word that is no INIT, legal or not. -/
theorem witness_WrapperPinsMatterOnlyToInit :
    (∃ t, exec .init (toy16 []) = .next t) ∧ (∃ t, exec .info (toy16 []) = .next t) ∧
    ((decode 0x00000005 ≠ .ok .init ∧ ∃ u, issue (0x00000005, 0) (toy16 []) = .next u) ∧
      decode 0x00000000 ≠ .ok .init ∧ ∃ u, issue (0x00000000, 0) (toy16 []) = .next u) :=
  ⟨⟨_, rfl⟩, ⟨_, rfl⟩, ⟨by decide, _, rfl⟩, by decide, _, rfl⟩

/-- HardwareReset: in every phase. -/
theorem witness_HardwareReset :
    ∀ p ∈ [Phase.idle, .busy, .respond],
      (((toy16 []).setPhase p).setEdges [{ Edge.quiet with rstN := false }, Edge.quiet]).nextEdge.rstN = false := by decide

/-- StepKeepsPendingLength: both invariants and a next state together, a full block pending, and the second at reset. -/
theorem witness_StepKeepsPendingLength :
    (∃ s t : State, s.Inv ∧ s.LengthInv ∧ s.plen = 16 ∧ step s = .next t) ∧ State.reset.LengthInv := by
  refine ⟨⟨_, _, witness_Inv .request (by decide), ?_, rfl, rfl⟩, ?_⟩ <;> unfold State.LengthInv <;> decide

/-- ChainAndPendingFollowTheMessage, TagIsTheCmacOfTheMessage, ResetRoundTrip: both block sizes, an empty, a short and a full
beat. -/
theorem witness_messages :
    ∀ b ∈ [BlockSize.b8, .b16],
      (wrapperOf (BitVec.ofNat 8 (blockLen b)) (maskCipher c16 [])).cipherErr = false ∧
      ∀ d ∈ [[], [0x01], List.replicate (blockLen b) (0xff : Byte)], d.length ≤ blockLen b := by decide

/-- MacUsesTheInstanceSubkeys, after the wrapper's cipher changed. -/
theorem witness_MacUsesTheInstanceSubkeys :
    ({ holding16 [] 0 toyBlock 16 with wrapper := wrapperOf 16 (maskCipher 1 [0]) } : State).EngineInv ∧
    ({ holding16 [] 0 toyBlock 16 with wrapper := wrapperOf 16 (maskCipher 1 [0]) } : State).configured = true := by
  unfold State.EngineInv; and_intros <;> decide

/-- WriteMsgBeats: 17 bytes in blocks of 16 make two beats. -/
theorem witness_WriteMsgBeats :
    0 < 16 ∧ (messageBeats 16 (List.replicate 17 0x01)).map List.length = [16, 1] ∧ messageBeats 16 [] = [] := by decide

/-- TimingIndependentOfData: two states with different subkeys, pending bytes and ciphers. -/
theorem witness_TimingIndependentOfData :
    (holding16 [] 0 toyBlock 16).publicView =
      ({ holding16 [toyBlock] 1 c16 16 with k1 := 1, k2 := 2 } : State).publicView ∧
    (holding16 [] 0 toyBlock 16).illegalRewire (holding16 [] 0 toyBlock 16).nextEdge.rewire =
      ({ holding16 [toyBlock] 1 c16 16 with k1 := 1, k2 := 2 } : State).illegalRewire Edge.quiet.rewire := by decide

end Sys2Proof.Tests
end

section
/-! PROOFS. Commands as atomic transitions (R14, R62): the edge that completes one, the edges that complete none, what a
command reads of the agents around the engine, and host programs run edge by edge. -/

namespace Sys2Proof.Machine

/-! ## The edge that completes a command -/

/-- With the core's work done and every cipher answer taken, the edge runs the sampled command (R52). -/
theorem busyEdge_complete (s : State) (e : Edge) (hc : e.coreDone = true)
    (he : s.enc = .done ∨ (s.enc = .start ∧ s.request = none)) : s.busyEdge e = runCommand s := by
  rcases he with he | ⟨he, hq⟩
  · simp [State.busyEdge, he, hc]
  · simp [State.busyEdge, he, hc, hq]

theorem runCommand_decoded (s : State) (i : Instr) (h : decode s.cmdWord = .ok i) : runCommand s = exec i s := by
  simp [runCommand, h]

theorem runCommand_illegal (s : State) (e : Illegal) (h : decode s.cmdWord = .error e) :
    runCommand s = .next (s.raise .illegalCommand 0) := by
  simp [runCommand, h]

/-- At a completing edge the step is the whole command (R14, R62). -/
theorem step_complete (s : State) (hp : s.phase = .busy) (hr : s.nextEdge.rstN = true)
    (hc : s.nextEdge.coreDone = true) (hw : s.illegalRewire s.nextEdge.rewire = false)
    (he : s.enc = .done ∨ (s.enc = .start ∧ s.request = none)) : step s = runCommand s.atEdge := by
  rw [step_run s hr hw, hp]
  exact busyEdge_complete s.atEdge s.nextEdge hc (by simpa using he)

/-- Settles O6: the completing edge runs the sampled command, which the word decodes to. -/
theorem stepRunsTheDecodedCommand : Obligations.StepRunsTheDecodedCommand := by
  intro s i hp hr hc hw he hd
  rw [step_complete s hp hr hc hw he]
  exact runCommand_decoded s.atEdge i hd

/-! ## Edges that complete no command -/

/-- Settles O34: of the things a rising edge can do, only reset and the completion of a command write a register of the
engine or a response register, and only the accepting edge samples. -/
theorem onlyCompletionChangesRegisters : Obligations.OnlyCompletionChangesRegisters := by
  intro s t hr h hn
  cases step_effect s t h with
  | reset hr' ht => simp [hr] at hr'
  | accept _ hp hv ht =>
    obtain ⟨g, -, hg⟩ := accept_eq s.atEdge s.nextEdge
    subst ht
    exact ⟨by rw [hg]; rfl, fun hna => absurd ⟨hp, hv⟩ hna⟩
  | complete _ hp _ _ _ ht =>
    obtain ⟨u, hu, hresp, -, -⟩ := runCommand_next s.atEdge
    obtain rfl : u = t := by simpa [hu] using ht
    exact absurd ⟨hp, hresp⟩ hn
  | _ => subst t; exact ⟨rfl, fun _ => ⟨rfl, rfl, rfl, rfl, rfl⟩⟩

/-! ## Each command's meaning and its cipher request, an equation for each way it can end -/

section
variable (s : State)

theorem execInit_cipherError (he : s.smpErr = true) :
    execInit s = .next (s.dropSamples.zeroize.raise .cipherConstructionError s.smpErrCode) := by
  simp [execInit, he]

theorem execInit_badSize (he : s.smpErr = false) (hb : s.sampledBlockSize = none) :
    execInit s = .next (s.dropSamples.zeroize.raise .invalidBlockSize 0) := by
  simp [execInit, he, hb]

theorem execInit_done (b : BlockSize) (he : s.smpErr = false) (hb : s.sampledBlockSize = some b) :
    execInit s = .next ((s.dropSamples.configure b (s.derive b).1 (s.derive b).2).respond .ok 0 0) := by
  simp [execInit, he, hb]

theorem execWrite_notConfigured (len : Nat) (hc : s.configured = false) :
    execWrite len s = .next (s.raise .notConfigured 0) := by
  simp [execWrite, hc]

theorem execWrite_tooLong (len : Nat) (hc : s.configured = true) (hl : s.bs < len) :
    execWrite len s = .next (s.raise .illegalLength 0) := by
  simp [execWrite, hc, hl]

theorem execWrite_accepted (len : Nat) (hc : s.configured = true) (hl : len ≤ s.bs) :
    execWrite len s =
      .next (((s.appendDrain (s.writeData len)).countMessage len).respond .ok (BitVec.ofNat 8 len) 0) := by
  simp [execWrite, hc, Nat.not_lt.mpr hl]

theorem execFinalize_notConfigured (hc : s.configured = false) :
    execFinalize s = .next (s.raise .notConfigured 0) := by
  simp [execFinalize, hc]

theorem execFinalize_configured (hc : s.configured = true) :
    execFinalize s = .next (s.respond .ok 0 (blockOfBytes (s.cipherE s.bs s.finalInput))) := by
  simp [execFinalize, hc]

theorem execReset_notConfigured (hc : s.configured = false) : execReset s = .next (s.raise .notConfigured 0) := by
  simp [execReset, hc]

theorem execReset_configured (hc : s.configured = true) : execReset s = .next (s.clearMessage.respond .ok 0 0) := by
  simp [execReset, hc]

/-- An INIT that succeeds requests the zero block (R58). -/
theorem commandRequest_init (b : BlockSize) (he : s.smpErr = false) (hb : s.sampledBlockSize = some b) :
    commandRequest .init s = some (zeros (blockLen b)) := by
  simp [commandRequest, he, hb]

/-- A WRITE that drains requests the block it processes (R58). -/
theorem commandRequest_write (len : Nat) (hc : s.configured = true) (hl : len ≤ s.bs)
    (hd : s.bs < (s.buffered (s.writeData len)).length) :
    commandRequest (.write len) s = some (s.chainInput ((s.buffered (s.writeData len)).take s.bs)) := by
  simp only [commandRequest, hc, Bool.true_eq_false, false_or, if_neg (Nat.not_lt.mpr hl), if_pos hd]

/-- A FINALIZE with CONFIGURED = 1 requests its last block (R58). -/
theorem commandRequest_finalize (hc : s.configured = true) : commandRequest .finalize s = some s.finalInput := by
  simp [commandRequest, hc]

end

/-! ## What a command reads of the cipher and of the core's control state -/

/-- The state with another PHASE, another stage of the cipher request and other coming edges: the core's control state and its
inputs, which no command reads. -/
def State.withControl (p : Phase) (g : EncStage) (l : List Edge) (s : State) : State :=
  { s with phase := p, enc := g, edges := l }

/-- The state with another wrapper and other control state. -/
def State.withAgents (w : Wrapper) (p : Phase) (g : EncStage) (l : List Edge) (s : State) : State :=
  { s.withControl p g l with wrapper := w }

/-- Two ciphers answer the request of block `b` alike, in the lanes of a block (R57). -/
def Cipher.AgreeOn (c d : Cipher) (b : List Byte) : Prop :=
  ∀ k, k < b.length → lane (c.encrypt (blockOfBytes b)) k = lane (d.encrypt (blockOfBytes b)) k

theorem take_blockBytes_congr (a b : Block) (n : Nat) (h : ∀ k, k < min n 16 → lane a k = lane b k) :
    (blockBytes a).take n = (blockBytes b).take n := by
  apply List.ext_getElem
  · simp
  · intro k hk _
    simpa using h k (by simpa using hk)

/-- `E` depends on the cipher only in its answer to the block (R57). -/
theorem cipherE_congr (s s' : State) (n : Nat) (b : List Byte) (hb : min n 16 ≤ b.length)
    (h : s'.wrapper.cipher.AgreeOn s.wrapper.cipher b) : s'.cipherE n b = s.cipherE n b :=
  take_blockBytes_congr _ _ n fun k hk => h k (by omega)

theorem chainInput_take_length (s : State) (c : List Byte) (h : s.bs < c.length) :
    (s.chainInput (c.take s.bs)).length = min s.bs 16 := by
  rw [State.chainInput, xorBytes_length, chain_length, List.length_take]
  omega

theorem padded_length (s : State) :
    s.padded.length = min s.plen.toNat 16 + 1 + (s.bs - s.plen.toNat - 1) := by
  simp only [State.padded, List.length_append, pending_length, List.length_singleton, zeros_length]

/-- PAD_SELECT gives one block in every state (R133), for a PLEN above BS_REG too. -/
theorem padSelect_length (s : State) : s.padSelect.length = min s.bs 16 := by
  unfold State.padSelect
  split
  · simp
  · rw [xorBytes_length, padded_length, List.length_take, blockBytes_length]
    omega

theorem finalInput_length (s : State) : s.finalInput.length = min s.bs 16 := by
  simp [State.finalInput, padSelect_length]

section
variable (s : State) (w : Wrapper) (p : Phase) (g : EncStage) (l : List Edge)

/-- APPEND_DRAIN reads of the agents only the answer to the block it processes. -/
theorem appendDrain_withAgents (d : List Byte)
    (h : s.bs < (s.buffered d).length →
      w.cipher.AgreeOn s.wrapper.cipher (s.chainInput ((s.buffered d).take s.bs))) :
    (s.withAgents w p g l).appendDrain d = (s.appendDrain d).withAgents w p g l := by
  by_cases hc : s.bs < (s.buffered d).length
  · have hE := cipherE_congr s (s.withAgents w p g l) s.bs _
      (chainInput_take_length s _ hc).ge (h hc)
    rw [appendDrain_drain s d hc, appendDrain_drain (s.withAgents w p g l) d hc]
    exact congrArg (fun v => ((s.setChain v).setPending ((s.buffered d).drop s.bs)).withAgents w p g l) hE
  · rw [appendDrain_hold s d (by omega), appendDrain_hold (s.withAgents w p g l) d (Nat.le_of_not_lt hc)]
    rfl

theorem derive_withAgents (b : BlockSize) (h : w.cipher.AgreeOn s.wrapper.cipher (zeros (blockLen b))) :
    (s.withAgents w p g l).derive b = s.derive b := by
  have hL : (s.withAgents w p g l).initL b = s.initL b :=
    cipherE_congr s (s.withAgents w p g l) (blockLen b) _ (by simp) h
  simp [State.derive, hL]

theorem execInit_withAgents (h : ∀ b, commandRequest .init s = some b → w.cipher.AgreeOn s.wrapper.cipher b)
    (t : State) (ht : execInit s = .next t) :
    execInit (s.withAgents w p g l) = .next (t.withAgents w .respond .start l) := by
  cases he : s.smpErr with
  | true =>
    rw [execInit_cipherError s he] at ht
    cases ht
    exact execInit_cipherError (s.withAgents w p g l) he
  | false =>
    cases hb : s.sampledBlockSize with
    | none =>
      rw [execInit_badSize s he hb] at ht
      cases ht
      exact execInit_badSize (s.withAgents w p g l) he hb
    | some b =>
      rw [execInit_done s b he hb] at ht
      cases ht
      rw [execInit_done (s.withAgents w p g l) b he hb,
        derive_withAgents s w p g l b (h _ (commandRequest_init s b he hb))]
      rfl

theorem execWrite_withAgents (len : Nat)
    (h : ∀ b, commandRequest (.write len) s = some b → w.cipher.AgreeOn s.wrapper.cipher b)
    (t : State) (ht : execWrite len s = .next t) :
    execWrite len (s.withAgents w p g l) = .next (t.withAgents w .respond .start l) := by
  cases hc : s.configured with
  | false =>
    rw [execWrite_notConfigured s len hc] at ht
    cases ht
    exact execWrite_notConfigured (s.withAgents w p g l) len hc
  | true =>
    by_cases hl : s.bs < len
    · rw [execWrite_tooLong s len hc hl] at ht
      cases ht
      exact execWrite_tooLong (s.withAgents w p g l) len hc hl
    · have hl' : len ≤ s.bs := by omega
      have hd := appendDrain_withAgents s w p g l (s.writeData len) fun hlong =>
        h _ (commandRequest_write s len hc hl' hlong)
      rw [execWrite_accepted s len hc hl'] at ht
      cases ht
      rw [execWrite_accepted (s.withAgents w p g l) len hc hl']
      exact congrArg (fun u : State => Host.Outcome.next ((u.countMessage len).respond .ok (BitVec.ofNat 8 len) 0)) hd

theorem execFinalize_withAgents
    (h : ∀ b, commandRequest .finalize s = some b → w.cipher.AgreeOn s.wrapper.cipher b)
    (t : State) (ht : execFinalize s = .next t) :
    execFinalize (s.withAgents w p g l) = .next (t.withAgents w .respond .start l) := by
  cases hc : s.configured with
  | false =>
    rw [execFinalize_notConfigured s hc] at ht
    cases ht
    exact execFinalize_notConfigured (s.withAgents w p g l) hc
  | true =>
    have hE := cipherE_congr s (s.withAgents w p g l) s.bs _ (finalInput_length s).ge
      (h _ (commandRequest_finalize s hc))
    rw [execFinalize_configured s hc] at ht
    cases ht
    rw [execFinalize_configured (s.withAgents w p g l) hc]
    exact congrArg (fun v => Host.Outcome.next ((s.withAgents w p g l).respond .ok 0 (blockOfBytes v))) hE

theorem execReset_withAgents (t : State) (ht : execReset s = .next t) :
    execReset (s.withAgents w p g l) = .next (t.withAgents w .respond .start l) := by
  cases hc : s.configured with
  | false =>
    rw [execReset_notConfigured s hc] at ht
    cases ht
    exact execReset_notConfigured (s.withAgents w p g l) hc
  | true =>
    rw [execReset_configured s hc] at ht
    cases ht
    exact execReset_configured (s.withAgents w p g l) hc

/-- A command reads of the agents around the engine only the answer to the one block it requests (R38, R57, R58). -/
theorem exec_withAgents (i : Instr)
    (h : ∀ b, commandRequest i s = some b → w.cipher.AgreeOn s.wrapper.cipher b)
    (t : State) (ht : exec i s = .next t) :
    exec i (s.withAgents w p g l) = .next (t.withAgents w .respond .start l) := by
  cases i with
  | init => exact execInit_withAgents s w p g l h t ht
  | write len => exact execWrite_withAgents s w p g l len h t ht
  | finalize => exact execFinalize_withAgents s w p g l h t ht
  | reset => exact execReset_withAgents s w p g l t ht
  | info => cases ht; rfl

/-- A command ends in PHASE RESPOND with no cipher request left, and leaves the wrapper and the coming edges alone (R38,
R52). -/
theorem exec_leaves_agents (i : Instr) (t : State) (ht : exec i s = .next t) :
    t = t.withAgents s.wrapper .respond .start s.edges := by
  have h := exec_withAgents s s.wrapper s.phase s.enc s.edges i (fun _ _ _ _ => rfl) t ht
  exact Host.Outcome.next.inj (ht.symm.trans h)

/-- The sampled command, legal or not, reads nothing of the control state (R52). -/
theorem runCommand_withControl (t : State) (ht : runCommand s = .next t) :
    runCommand (s.withControl p g l) = .next (t.withControl .respond .start l) := by
  cases hd : decode s.cmdWord with
  | error e =>
    rw [runCommand_illegal s e hd] at ht
    cases ht
    exact runCommand_illegal (s.withControl p g l) e hd
  | ok i =>
    rw [runCommand_decoded s i hd] at ht
    have hw : t.wrapper = s.wrapper := (congrArg State.wrapper (exec_leaves_agents s i t ht)).trans rfl
    have h := exec_withAgents s s.wrapper p g l i (fun _ _ _ _ => rfl) t ht
    rw [runCommand_decoded (s.withControl p g l) i hd]
    refine h.trans ?_
    rw [← hw]
    rfl

end

/-- Settles O42: the state with another cipher is one with another wrapper and the control state it had. -/
theorem onlyTheRequestedBlockMatters : Obligations.OnlyTheRequestedBlockMatters := by
  intro i s t c h ht
  have hc : exec i (s.withCipher c) =
      .next (t.withAgents { s.wrapper with cipher := c } .respond .start s.edges) :=
    exec_withAgents s { s.wrapper with cipher := c } s.phase s.enc s.edges i h t ht
  rw [hc]
  exact congrArg (fun u : State => Host.Outcome.next (u.withCipher c)) (exec_leaves_agents s i t ht).symm

/-! ## A command from its presentation to the taking of its response -/

theorem runEdges_of_step {k : Nat} {s t : State} {o : Host.Outcome State Fault Refusal} (h : step s = .next t)
    (hrun : runEdges k t = o) : runEdges (k + 1) s = o := by
  simp [runEdges, h, hrun]

theorem issueAll_of_issue (c : Word32 × Block) (cs : List (Word32 × Block)) (s t : State) (h : issue c s = .next t) :
    issueAll (c :: cs) s = issueAll cs t := by
  simp [issueAll, h]

/-- The pins that present a command while nobody holds anything up. -/
def Edge.presenting (c : Word32 × Block) : Edge :=
  { Edge.ready with cmdValid := true, cmdWord := c.1, cmdData := c.2 }

theorem commandEdges_append (c : Word32 × Block) (l : List Edge) :
    commandEdges c ++ l = .presenting c :: .ready :: .ready :: .ready :: .ready :: l := rfl

section
variable (s : State) (l : List Edge)

/-- The wrapper takes the request (R56). -/
theorem step_ready_request :
    step (s.withControl .busy .request (Edge.ready :: l)) = .next (s.withControl .busy .await l) := rfl

/-- The wrapper answers the request (R56). -/
theorem step_ready_await :
    step (s.withControl .busy .await (Edge.ready :: l)) = .next (s.withControl .busy .done l) := rfl

/-- With its answer taken the command runs (R52). -/
theorem step_ready_done (t : State) (h : runCommand s = .next t) :
    step (s.withControl .busy .done (Edge.ready :: l)) = .next (t.withControl .respond .start l) :=
  runCommand_withControl s .busy .done l t h

/-- A command without a cipher request runs at the edge after its acceptance (R223). -/
theorem step_ready_noRequest (t : State) (hq : s.request = none) (h : runCommand s = .next t) :
    step (s.withControl .busy .start (Edge.ready :: l)) = .next (t.withControl .respond .start l) := by
  rw [step_complete (s.withControl .busy .start (Edge.ready :: l)) rfl rfl rfl rfl (.inr ⟨rfl, hq⟩)]
  exact runCommand_withControl s .busy .start l t h

/-- The host takes the response (R52). -/
theorem step_ready_respond (g : EncStage) :
    step (s.withControl .respond g (Edge.ready :: l)) = .next (s.withControl .idle g l) := rfl

theorem step_ready_idle (g : EncStage) :
    step (s.withControl .idle g (Edge.ready :: l)) = .next (s.withControl .idle g l) := rfl

/-- The accepting edge raises the command's cipher request at once, if it makes one (R52). -/
theorem step_presenting (c : Word32 × Block) (g : EncStage) :
    step (s.withControl .idle g (Edge.presenting c :: l)) =
      .next ((s.sample c.1 c.2).withControl .busy
        (if (s.sample c.1 c.2).request.isSome then .request else .start) l) := by
  have hstep : step (s.withControl .idle g (Edge.presenting c :: l)) =
      .next ((s.withControl .idle g l).accept (Edge.presenting c)) := rfl
  have hreq : ((s.withControl .idle g l).sample (Edge.presenting c).cmdWord (Edge.presenting c).cmdData).request =
      (s.sample c.1 c.2).request := rfl
  rw [hstep, State.accept, hreq]
  cases (s.sample c.1 c.2).request <;> rfl

/-- A command that makes no cipher request is through after three of its five edges, and IDLE for the others. -/
theorem runEdges_noRequest (c : Word32 × Block) (g : EncStage) (t : State) (h : issue c s = .next t)
    (hq : (s.sample c.1 c.2).request = none) :
    runEdges 5 (s.withControl .idle g (commandEdges c ++ l)) = .next (t.withControl .idle .start l) := by
  have haccept := step_presenting s (.ready :: .ready :: .ready :: .ready :: l) c g
  rw [hq] at haccept
  rw [commandEdges_append]
  exact runEdges_of_step haccept <| runEdges_of_step (step_ready_noRequest _ _ t hq h) <|
    runEdges_of_step (step_ready_respond t _ .start) <| runEdges_of_step (step_ready_idle t _ .start) <|
    runEdges_of_step (step_ready_idle t l .start) rfl

/-- A command that makes a cipher request needs all of its five edges. -/
theorem runEdges_request (c : Word32 × Block) (g : EncStage) (t : State) (h : issue c s = .next t) (b : Block)
    (hq : (s.sample c.1 c.2).request = some b) :
    runEdges 5 (s.withControl .idle g (commandEdges c ++ l)) = .next (t.withControl .idle .start l) := by
  have haccept := step_presenting s (.ready :: .ready :: .ready :: .ready :: l) c g
  rw [hq] at haccept
  rw [commandEdges_append]
  exact runEdges_of_step haccept <| runEdges_of_step (step_ready_request _ _) <|
    runEdges_of_step (step_ready_await _ _) <| runEdges_of_step (step_ready_done _ _ t h) <|
    runEdges_of_step (step_ready_respond t l .start) rfl

end

/-- Every command, presented with nobody holding anything up, is through within its five edges. -/
theorem runEdges_command (c : Word32 × Block) (s : State) (g : EncStage) (l : List Edge) :
    ∃ t, issue c s = .next t ∧ t.enc = .start ∧
      runEdges 5 (s.withControl .idle g (commandEdges c ++ l)) = .next (t.withControl .idle .start l) := by
  obtain ⟨t, h, -, henc, -⟩ := runCommand_next (s.sample c.1 c.2)
  refine ⟨t, h, henc, ?_⟩
  cases hq : (s.sample c.1 c.2).request with
  | none => exact runEdges_noRequest s l c g t h hq
  | some b => exact runEdges_request s l c g t h b hq

theorem runEdges_append (m n : Nat) (s t : State) (h : runEdges m s = .next t) :
    runEdges (m + n) s = runEdges n t := by
  induction m generalizing s with
  | zero => cases h; rw [Nat.zero_add]
  | succ m ih =>
    rw [Nat.add_right_comm]
    cases hs : step s with
    | next u => exact runEdges_of_step hs (ih u (by simpa [runEdges, hs] using h))
    | fault r => simp [runEdges, hs] at h
    | refused r => simp [runEdges, hs] at h

/-- The commands one after another and their edges one after another, for every start of the control state: `issue` leaves
the response presented and uses up no edge, so that the induction runs the edges from an IDLE copy of its state. -/
theorem runEdges_program (cs : List (Word32 × Block)) (s : State) (rest : List Edge) :
    ∃ t, issueAll cs s = .next t ∧
      runEdges (5 * cs.length) (s.withControl .idle s.enc (cs.flatMap commandEdges ++ rest)) =
        .next (t.withControl .idle t.enc rest) := by
  induction cs generalizing s with
  | nil => exact ⟨s, rfl, rfl⟩
  | cons c cs ih =>
    obtain ⟨u, hu, henc, hedges⟩ := runEdges_command c s s.enc (cs.flatMap commandEdges ++ rest)
    obtain ⟨t, ht, hrest⟩ := ih u
    refine ⟨t, (issueAll_of_issue c cs s u hu).trans ht, ?_⟩
    rw [← henc] at hedges
    rw [List.flatMap_cons, List.append_assoc, List.length_cons, Nat.mul_succ, Nat.add_comm,
      runEdges_append 5 _ _ _ hedges]
    exact hrest

/-- Settles O9, by induction on the commands. -/
theorem programsRunAsIssued : Obligations.ProgramsRunAsIssued := by
  intro cs s rest hp he
  obtain ⟨t, ht, hrun⟩ := runEdges_program cs s rest
  have hs : s = s.withControl .idle s.enc (cs.flatMap commandEdges ++ rest) := by
    rw [← hp, ← he]
    rfl
  rw [← hs] at hrun
  exact ⟨t, ht, hrun⟩

end Sys2Proof.Machine
end

section
/-! PROOFS. What every step keeps (R34, R56, R89, R139): for each invariant, that the operations and then the sampled command
keep it, and from that that a rising edge does. -/

namespace Sys2Proof.Machine

/-! ## The engine's registers under an edge -/

/-- The state with the engine's registers, the response registers and MSGLEN of `s`: what only reset and the completion of a
command write. -/
def State.withRegistersOf (t s : State) : State :=
  { t with
    configured := s.configured, bsReg := s.bsReg, k1 := s.k1, k2 := s.k2, x := s.x, pb := s.pb, plen := s.plen,
    rspWord := s.rspWord, rspTag := s.rspTag, msgLen := s.msgLen }

/-- Apart from reset and the completion of a command, an edge writes no register of the engine, no response register and no
MSGLEN (R14, R52, R62). -/
theorem step_registers (s t : State) (h : step s = .next t) :
    (∃ u : State, t = u.hardReset) ∨ runCommand s.atEdge = .next t ∨ t = t.withRegistersOf s := by
  cases step_effect s t h with
  | reset _ ht => exact .inl ⟨_, ht⟩
  | complete _ _ _ _ _ ht => exact .inr (.inl ht)
  | accept _ _ _ ht =>
    obtain ⟨g, -, hg⟩ := accept_eq s.atEdge s.nextEdge
    rw [hg] at ht
    subst t
    exact .inr (.inr rfl)
  | _ => subst t; exact .inr (.inr rfl)

/-- So a property of those registers is kept by every edge if reset meets it and the sampled command keeps it. -/
theorem step_keeps (P : State → Prop) (hregisters : ∀ s t : State, P (t.withRegistersOf s) ↔ P s)
    (hreset : ∀ u : State, P u.hardReset) (s t : State) (hcommand : runCommand s.atEdge = .next t → P t) (hs : P s)
    (h : step s = .next t) : P t := by
  rcases step_registers s t h with ⟨u, rfl⟩ | hc | ht
  · exact hreset u
  · exact hcommand hc
  · rw [ht]
    exact (hregisters s t).mpr hs

/-! ## R34 -/

theorem bs_cases (s : State) (h : s.bsReg = 8 ∨ s.bsReg = 16) : s.bs = 8 ∨ s.bs = 16 := by
  rcases h with h | h <;> simp [State.bs, h]

section
variable (s : State) (d : List Byte) (hbs : s.bs ≤ 16) (hp : s.plen.toNat ≤ s.bs)
include hbs hp

theorem buffered_length_of_le : (s.buffered d).length = s.plen.toNat + d.length := by
  rw [buffered_length]
  omega

/-- PLEN after APPEND_DRAIN (R131). -/
theorem appendDrain_plen (hd : d.length ≤ s.bs) :
    (s.appendDrain d).plen.toNat =
      if s.plen.toNat + d.length ≤ s.bs then s.plen.toNat + d.length else s.plen.toNat + d.length - s.bs := by
  have hlen := buffered_length_of_le s d hbs hp
  split
  · rw [appendDrain_hold s d (by omega), State.setPending_plen, BitVec.toNat_ofNat, hlen]
    omega
  · rw [appendDrain_drain s d (by omega), State.setPending_plen, BitVec.toNat_ofNat, List.length_drop, hlen]
    omega

/-- The lanes of PB from the new PLEN on are 0 (R131). -/
theorem appendDrain_pb_zeroFrom (hd : d.length ≤ s.bs) :
    zeroFrom (s.appendDrain d).plen.toNat (s.appendDrain d).pb := by
  have hlen := buffered_length_of_le s d hbs hp
  have hplen := appendDrain_plen s d hbs hp hd
  by_cases hc : s.plen.toNat + d.length ≤ s.bs
  · rw [if_pos hc] at hplen
    rw [hplen, appendDrain_hold s d (by omega)]
    exact zeroFrom_blockOfBytes _ _ (by omega)
  · rw [if_neg hc] at hplen
    rw [hplen, appendDrain_drain s d (by omega)]
    exact zeroFrom_blockOfBytes _ _ (by rw [List.length_drop]; omega)

/-- X is written only when a block is processed (R131, R132). -/
theorem appendDrain_x_of_hold (hc : s.plen.toNat + d.length ≤ s.bs) : (s.appendDrain d).x = s.x := by
  rw [appendDrain_hold s d (by rw [buffered_length_of_le s d hbs hp]; exact hc)]
  rfl

end

/-- X keeps its lanes from the block size on at 0 (R26, R130). -/
theorem appendDrain_x_zeroFrom (s : State) (d : List Byte) (hx : zeroFrom s.bs s.x) :
    zeroFrom s.bs (s.appendDrain d).x := by
  by_cases hc : s.bs < (s.buffered d).length
  · rw [appendDrain_drain s d hc]
    exact zeroFrom_blockOfBytes _ _ (by simp)
  · rw [appendDrain_hold s d (by omega)]
    exact hx

theorem engineInv_appendDrain (s : State) (d : List Byte) (hc : s.configured = true) (hd : d.length ≤ s.bs)
    (h : s.EngineInv) : (s.appendDrain d).EngineInv := by
  obtain ⟨hbs, hp, hk1, hk2, hx, -⟩ := h.1 hc
  have hbs16 : s.bs ≤ 16 := by rcases bs_cases s hbs with h | h <;> omega
  have hplen := appendDrain_plen s d hbs16 hp hd
  have hpb := appendDrain_pb_zeroFrom s d hbs16 hp hd
  have hx' := appendDrain_x_zeroFrom s d hx
  rw [appendDrain_eq]
  refine ⟨fun _ => ⟨hbs, ?_, hk1, hk2, hx', hpb⟩, fun hn => nomatch hc.symm.trans hn⟩
  show (s.appendDrain d).plen.toNat ≤ s.bs
  rw [hplen]
  split <;> omega

theorem engineInv_zeroize (s : State) : s.zeroize.EngineInv := by
  simp [State.EngineInv]

theorem engineInv_hardReset (s : State) : s.hardReset.EngineInv := by
  simp [State.EngineInv]

theorem configure_bs (s : State) (b : BlockSize) (u v : List Byte) : (s.configure b u v).bs = blockLen b := by
  cases b <;> rfl

theorem derive_length (s : State) (b : BlockSize) :
    (s.derive b).1.length = blockLen b ∧ (s.derive b).2.length = blockLen b := by
  rcases blockLen_cases b with h | h <;> simp [State.derive, State.initL, h]

theorem engineInv_configure (s : State) (b : BlockSize) (u v : List Byte) (hu : u.length = blockLen b)
    (hv : v.length = blockLen b) : (s.configure b u v).EngineInv := by
  refine ⟨fun _ => ⟨?_, Nat.zero_le _, ?_, ?_, zeroFrom_zero _, zeroFrom_zero _⟩, fun hn => by cases hn⟩
  · cases b
    · exact .inl rfl
    · exact .inr rfl
  · exact zeroFrom_blockOfBytes u _ (by rw [configure_bs, hu])
  · exact zeroFrom_blockOfBytes v _ (by rw [configure_bs, hv])

theorem engineInv_clearMessage (s : State) (hc : s.configured = true) (h : s.EngineInv) : s.clearMessage.EngineInv := by
  obtain ⟨hbs, -, hk1, hk2, -, -⟩ := h.1 hc
  exact ⟨fun _ => ⟨hbs, Nat.zero_le _, hk1, hk2, zeroFrom_zero _, zeroFrom_zero _⟩, fun hn => nomatch hc.symm.trans hn⟩

/-- A command's response writes no register of the engine (R89). -/
theorem engineInv_respond (s : State) (st : Status) (c : Byte) (tag : Block) (h : s.EngineInv) :
    (s.respond st c tag).EngineInv := h

theorem engineInv_countMessage (s : State) (k : Nat) (h : s.EngineInv) : (s.countMessage k).EngineInv := h

theorem runCommand_engineInv (s t : State) (h : s.EngineInv) (ht : runCommand s = .next t) : t.EngineInv := by
  cases runCommand_effect s t ht with
  | initError _ _ ht => subst t; exact engineInv_zeroize s.dropSamples
  | initBadSize _ _ _ ht => subst t; exact engineInv_zeroize s.dropSamples
  | initDone b _ _ _ ht =>
    obtain ⟨hu, hv⟩ := derive_length s b
    subst t
    exact engineInv_configure s.dropSamples b _ _ hu hv
  | written len _ hc hl ht =>
    subst t
    have hd : (s.writeData len).length ≤ s.bs := by rw [writeData_length]; omega
    exact engineInv_respond _ _ _ _ (engineInv_countMessage _ len (engineInv_appendDrain s _ hc hd h))
  | cleared _ hc ht => subst t; exact engineInv_clearMessage s hc h
  | _ => subst t; exact engineInv_respond s _ _ _ h

theorem step_engineInv (s t : State) (h : s.EngineInv) (ht : step s = .next t) : t.EngineInv :=
  step_keeps State.EngineInv (fun _ _ => Iff.rfl) engineInv_hardReset s t (runCommand_engineInv s.atEdge t h) h ht

/-! ## R89 and R91 -/

theorem responseWord_packed (st : Status) (c : Byte) (conf : Bool) :
    responseWord st c conf =
      st.code.setWidth 32 ||| c.setWidth 32 <<< 8 ||| ((BitVec.ofBool conf).setWidth 16).setWidth 32 <<< 16 := by
  rw [responseWord, confFlag_eq]

theorem statusField_responseWord (st : Status) (c : Byte) (conf : Bool) :
    statusField (responseWord st c conf) = st.code := by
  rw [responseWord_packed]
  exact packed_low _ _ _

/-- CONF and the bits above it are the upper half of the word. -/
theorem upper_responseWord (st : Status) (c : Byte) (conf : Bool) :
    (responseWord st c conf).extractLsb' 16 16 = (BitVec.ofBool conf).setWidth 16 := by
  rw [responseWord_packed]
  exact packed_high _ _ _

theorem confField_eq_upper (w : Word32) : confField w = (w.extractLsb' 16 16).getLsbD 0 := by
  simp [confField]

theorem zeroField_eq_upper (w : Word32) : zeroField w = (w.extractLsb' 16 16).extractLsb' 1 15 := by
  apply BitVec.eq_of_getLsbD_eq
  intro k hk
  simp only [zeroField, BitVec.getLsbD_extractLsb']
  simp [hk, show 1 + k < 16 by omega, show 16 + (1 + k) = 17 + k by omega]

theorem confField_responseWord (st : Status) (c : Byte) (conf : Bool) :
    confField (responseWord st c conf) = conf := by
  rw [confField_eq_upper, upper_responseWord]
  cases conf <;> rfl

theorem zeroField_responseWord (st : Status) (c : Byte) (conf : Bool) :
    zeroField (responseWord st c conf) = 0 := by
  rw [zeroField_eq_upper, upper_responseWord]
  cases conf <;> rfl

theorem responseInv_respond (s : State) (st : Status) (c : Byte) (tag : Block) (hst : st ≠ .ok → tag = 0)
    (htag : zeroFrom s.bs tag) : (s.respond st c tag).ResponseInv := by
  refine ⟨zeroField_responseWord st c _, confField_responseWord st c _, ⟨st, statusField_responseWord st c _⟩, ?_, htag⟩
  intro hne
  rw [State.respond_rspWord, statusField_responseWord] at hne
  exact hst (fun hok => hne (by rw [hok]))

theorem responseInv_respond_zero (s : State) (st : Status) (c : Byte) : (s.respond st c 0).ResponseInv :=
  responseInv_respond s st c 0 (fun _ => rfl) (zeroFrom_zero _)

/-- Every command loads a response of the form of R89 and R91, whatever the response registers held. -/
theorem runCommand_responseInv (s t : State) (ht : runCommand s = .next t) : t.ResponseInv := by
  cases runCommand_effect s t ht with
  | finalized _ _ ht =>
    subst t
    exact responseInv_respond s .ok 0 _ (fun hne => absurd rfl hne) (zeroFrom_blockOfBytes _ _ (by simp))
  | _ => subst t; exact responseInv_respond_zero _ _ _

theorem responseInv_hardReset (s : State) : s.hardReset.ResponseInv :=
  ⟨by simp [zeroField], by simp [confField], ⟨.ok, rfl⟩, fun _ => rfl, zeroFrom_zero _⟩

theorem step_responseInv (s t : State) (h : s.ResponseInv) (ht : step s = .next t) : t.ResponseInv :=
  step_keeps State.ResponseInv (fun _ _ => Iff.rfl) responseInv_hardReset s t (runCommand_responseInv s.atEdge t) h ht

/-! ## R56: the cipher request -/

/-- At stage `start` no cipher request stands, whatever PHASE is. -/
theorem handshakeInv_of_start (s : State) (h : s.enc = .start) : s.HandshakeInv :=
  ⟨fun _ => h, fun hq => by simp [h] at hq⟩

/-- A command ends with its response presented and no cipher request left (R52). -/
theorem runCommand_ends (s t : State) (h : runCommand s = .next t) : t.phase = .respond ∧ t.enc = .start := by
  obtain ⟨u, hu, hphase, henc, -⟩ := runCommand_next s
  obtain rfl : u = t := by simpa [hu] using h
  exact ⟨hphase, henc⟩

@[simp] theorem setEnc_request (s : State) (g : EncStage) : (s.setEnc g).request = s.request := rfl

@[simp] theorem setPhase_request (s : State) (p : Phase) : (s.setPhase p).request = s.request := rfl

theorem handshakeInv_atEdge (s : State) : s.atEdge.HandshakeInv ↔ s.HandshakeInv := by
  simp [State.HandshakeInv]

theorem step_handshakeInv (s t : State) (h : s.HandshakeInv) (ht : step s = .next t) : t.HandshakeInv := by
  have ⟨hstart, hrequest⟩ := h
  cases step_effect s t ht with
  | reset _ ht => subst t; exact handshakeInv_of_start _ rfl
  | accept _ _ _ ht =>
    obtain ⟨g, hg, hacc⟩ := accept_eq s.atEdge s.nextEdge
    rw [ht, hacc]
    rcases hg with rfl | ⟨-, hq⟩
    · exact handshakeInv_of_start _ rfl
    · simp [State.HandshakeInv, hq]
  | raiseRequest b _ hp _ _ _ hq ht => simp [ht, State.HandshakeInv, hp, hq]
  | requestTaken _ hp _ he _ ht => simp [ht, State.HandshakeInv, hp, hrequest (.inl he)]
  | answerTaken _ hp _ _ _ ht => simp [ht, State.HandshakeInv, hp]
  | complete _ _ _ _ _ ht =>
    obtain ⟨-, henc⟩ := runCommand_ends s.atEdge t ht
    exact handshakeInv_of_start t henc
  | responseTaken _ hp _ ht => subst t; exact handshakeInv_of_start _ (hstart (by simp [hp]))
  | _ => subst t; exact (handshakeInv_atEdge s).mpr h

/-! ## R37 and R55: the sampled pins -/

/-- The accepting edge samples the pins for INIT alone, the code only with an error (R37, R55). -/
theorem sampleInv_sample (s : State) (w : Word32) (d : Block) (hp : s.phase ≠ .busy) (h : s.SampleInv) :
    (s.sample w d).SampleInv := by
  obtain ⟨hbs, herr⟩ := h.1 fun hb => hp hb.1
  have hcode := h.2 herr
  cases hw : wordReadsWrapper w
  · simp [State.SampleInv, hw, hbs, herr, hcode]
  · simp +contextual [State.SampleInv, hw, hcode]

/-- INIT drops its samples, and the samples are 0 in every other command (R37). -/
theorem runCommand_sampleInv (s t : State) (h : s.SampleInv) (ht : runCommand s = .next t) : t.SampleInv := by
  obtain ⟨hbs, herr, hcode⟩ := runCommand_samples s t ht
  cases hw : wordReadsWrapper s.cmdWord
  · obtain ⟨hbs0, herr0⟩ := h.1 fun hb => by simp [hw] at hb
    simp [State.SampleInv, hbs, herr, hcode, hw, hbs0, herr0, h.2 herr0]
  · simp [State.SampleInv, hbs, herr, hcode, hw]

theorem sampleInv_hardReset (s : State) : s.hardReset.SampleInv := by
  simp [State.SampleInv]

theorem step_sampleInv (s t : State) (h : s.SampleInv) (ht : step s = .next t) : t.SampleInv := by
  cases step_effect s t ht with
  | reset _ ht => subst t; exact sampleInv_hardReset _
  | accept _ hp _ ht =>
    obtain ⟨g, -, hacc⟩ := accept_eq s.atEdge s.nextEdge
    rw [hacc] at ht
    subst t
    exact sampleInv_sample s.atEdge _ s.nextEdge.cmdData (by simp [hp]) h
  | complete _ _ _ _ _ ht => exact runCommand_sampleInv s.atEdge t h ht
  | responseTaken _ hp _ ht =>
    subst t
    exact ⟨fun _ => h.1 fun hb => by simp [hp] at hb, h.2⟩
  | _ => subst t; exact h

/-- Settles O48: each of the four parts is kept on its own. -/
theorem stepKeepsInvariant : Obligations.StepKeepsInvariant := by
  intro s t ⟨hengine, hresponse, hhandshake, hsample⟩ h
  exact ⟨step_engineInv s t hengine h, step_responseInv s t hresponse h, step_handshakeInv s t hhandshake h,
    step_sampleInv s t hsample h⟩

/-! ## R139: PLEN and the zero chain -/

/-- PLEN after a message of `m` bytes (R139). -/
def pendingLength (bs m : Nat) : Nat := if m = 0 then 0 else (m - 1) % bs + 1

theorem lengthInv_iff (s : State) :
    s.LengthInv ↔
      (s.configured = true → s.plen.toNat = pendingLength s.bs s.msgLen ∧ (s.msgLen ≤ s.bs → s.x = 0)) := Iff.rfl

theorem pendingLength_le (bs m : Nat) : pendingLength bs m ≤ m := by
  unfold pendingLength
  split
  · omega
  · have := Nat.mod_le (m - 1) bs
    omega

/-- A beat of `k` bytes makes PLEN grow by `k` as long as a block holds it, and by `k` less one block beyond that (R131,
R139). -/
theorem pendingLength_add (bs m k : Nat) (hbs : 0 < bs) (hk : k ≤ bs) :
    pendingLength bs (m + k) =
      if pendingLength bs m + k ≤ bs then pendingLength bs m + k else pendingLength bs m + k - bs := by
  cases m with
  | zero =>
    cases k with
    | zero => simp [pendingLength]
    | succ j => simp [pendingLength, hk, Nat.mod_eq_of_lt (show j < bs by omega)]
  | succ j =>
    have hr : j % bs < bs := Nat.mod_lt j hbs
    have hsum : (j + k) % bs = (j % bs + k) % bs := (Nat.mod_add_mod j bs k).symm
    have hnext : (j + 1 + k) - 1 = j + k := by omega
    simp only [pendingLength, hnext, hsum, Nat.add_one_sub_one, show ¬ (j + 1 + k = 0) by omega, Nat.add_one_ne_zero,
      if_false]
    split
    · rw [Nat.mod_eq_of_lt (by omega)]
      omega
    · rw [Nat.mod_eq_sub_mod (by omega), Nat.mod_eq_of_lt (by omega)]
      omega

/-- An accepted beat keeps PLEN the function of MSGLEN, and only a full buffer lets it write X (R131, R132). -/
theorem lengthInv_appendDrain (s : State) (d : List Byte) (hc : s.configured = true) (hd : d.length ≤ s.bs)
    (hi : s.EngineInv) (h : s.LengthInv) : ((s.appendDrain d).countMessage d.length).LengthInv := by
  obtain ⟨hsize, hp, -, -, -, -⟩ := hi.1 hc
  obtain ⟨hplen, hx⟩ := (lengthInv_iff s).mp h hc
  have hbs : 0 < s.bs ∧ s.bs ≤ 16 := by rcases bs_cases s hsize with h | h <;> omega
  have hplen' := appendDrain_plen s d hbs.2 hp hd
  have hx' := appendDrain_x_of_hold s d hbs.2 hp
  have hle := pendingLength_le s.bs s.msgLen
  rw [appendDrain_eq]
  intro _
  constructor
  · show (s.appendDrain d).plen.toNat = pendingLength s.bs (s.msgLen + d.length)
    rw [hplen', hplen, pendingLength_add s.bs _ _ hbs.1 hd]
  · intro hm
    change s.msgLen + d.length ≤ s.bs at hm
    exact (hx' (by omega)).trans (hx (by omega))

theorem lengthInv_of_unconfigured (s : State) (h : s.configured = false) : s.LengthInv :=
  fun hc => by simp [h] at hc

/-- The empty message: nothing pending, nothing counted, nothing processed. -/
theorem lengthInv_of_empty (s : State) (hplen : s.plen = 0) (hmsg : s.msgLen = 0) (hx : s.x = 0) : s.LengthInv :=
  fun _ => ⟨by simp [hplen, hmsg], fun _ => hx⟩

theorem lengthInv_respond (s : State) (st : Status) (c : Byte) (tag : Block) (h : s.LengthInv) :
    (s.respond st c tag).LengthInv := h

theorem runCommand_lengthInv (s t : State) (hi : s.EngineInv) (h : s.LengthInv) (ht : runCommand s = .next t) :
    t.LengthInv := by
  cases runCommand_effect s t ht with
  | initError _ _ ht => exact lengthInv_of_unconfigured t (by rw [ht]; rfl)
  | initBadSize _ _ _ ht => exact lengthInv_of_unconfigured t (by rw [ht]; rfl)
  | initDone _ _ _ _ ht => subst t; exact lengthInv_of_empty _ rfl rfl rfl
  | written len _ hc hl ht =>
    obtain ⟨hsize, -⟩ := hi.1 hc
    have hlen : (s.writeData len).length = len := by
      rw [writeData_length]
      rcases bs_cases s hsize with h | h <;> omega
    have hbeat := lengthInv_appendDrain s (s.writeData len) hc (by omega) hi h
    rw [hlen] at hbeat
    subst t
    exact lengthInv_respond _ _ _ _ hbeat
  | cleared _ _ ht => subst t; exact lengthInv_of_empty _ rfl rfl rfl
  | _ => subst t; exact lengthInv_respond s _ _ _ h

/-- Settles O49: after reset CONFIGURED is 0, and the sampled command keeps PLEN the function of MSGLEN under R34. -/
theorem stepKeepsPendingLength : Obligations.StepKeepsPendingLength := by
  intro s t ⟨hengine, _⟩ hlength h
  exact step_keeps State.LengthInv (fun _ _ => Iff.rfl) (fun u => lengthInv_of_unconfigured u.hardReset rfl) s t
    (runCommand_lengthInv s.atEdge t hengine hlength) hlength h

/-- Settles O47: the reset state is what a hardware reset of it leaves. -/
theorem resetMeetsInvariant : Obligations.ResetMeetsInvariant :=
  ⟨⟨engineInv_hardReset State.reset, responseInv_hardReset State.reset, handshakeInv_of_start _ rfl,
    sampleInv_hardReset State.reset⟩, lengthInv_of_unconfigured _ rfl⟩

end Sys2Proof.Machine
end

section
/-! PROOFS. The ports (R51, R52, R55) and the wrapper's pins, which INIT alone reads (R37). -/

namespace Sys2Proof.Machine

/-! ## INIT and the samples of the wrapper's pins -/

theorem wordReadsWrapper_eq_false (w : Word32) (h : decode w ≠ .ok .init) : wordReadsWrapper w = false := by
  simpa using mt (wordReadsWrapper_iff w).mp h

/-- Settles O14, by the law of the samples. -/
theorem samplesEndWithInit : Obligations.SamplesEndWithInit := by
  intro s t h
  have hsmp := runCommand_samples s t h
  constructor
  · intro hi
    simpa [(wordReadsWrapper_iff _).mpr hi] using hsmp
  · intro hi
    simpa [wordReadsWrapper_eq_false _ hi] using hsmp

theorem sampledBlockSize_of_blockLen (s : State) (b : BlockSize) (h : s.smpBs = BitVec.ofNat 8 (blockLen b)) :
    s.sampledBlockSize = some b := by
  unfold State.sampledBlockSize
  rw [h]
  cases b <;> rfl

/-- L comes from the wrapper's answer to the zero block (R57, R105). -/
theorem initL_eq (s : State) (b : BlockSize) :
    s.initL b = (blockBytes (s.wrapper.cipher.encrypt 0)).take (blockLen b) := by
  rw [State.initL, State.cipherE, blockOfBytes_zeros]

/-- Settles O11: INIT with no error and a legal block size. -/
theorem initConstructsAnInstance : Obligations.InitConstructsAnInstance := by
  intro s b he hb
  show execInit s = _
  rw [execInit_done s b he (sampledBlockSize_of_blockLen s b hb), State.derive, initL_eq, hb]
  rfl

/-! ## Commands and the wrapper's pins -/

/-- The state with other samples of the wrapper's pins. -/
def State.withSamples (bs : Byte) (err : Bool) (code : Byte) (s : State) : State :=
  { s with smpBs := bs, smpErr := err, smpErrCode := code }

section
variable (s t : State) (bs code : Byte) (err : Bool)

/-- No command depends on what the pins are while it runs: the wrapper's cipher stays the same (R37, R218). -/
theorem exec_withPins (i : Instr) (ht : exec i s = .next t) :
    exec i (s.withPins bs err code) = .next (t.withPins bs err code) := by
  have h : exec i (s.withPins bs err code) =
      .next (t.withAgents (s.withPins bs err code).wrapper .respond .start s.edges) :=
    exec_withAgents s (s.withPins bs err code).wrapper s.phase s.enc s.edges i (fun _ _ _ _ => rfl) t ht
  rw [h]
  exact congrArg (fun u : State => Host.Outcome.next (u.withPins bs err code)) (exec_leaves_agents s i t ht).symm

theorem appendDrain_withSamples (d : List Byte) :
    (s.withSamples bs err code).appendDrain d = (s.appendDrain d).withSamples bs err code := by
  by_cases hc : s.bs < (s.buffered d).length
  · rw [appendDrain_drain s d hc, appendDrain_drain (s.withSamples bs err code) d hc]
    rfl
  · rw [appendDrain_hold s d (by omega), appendDrain_hold (s.withSamples bs err code) d (Nat.le_of_not_lt hc)]
    rfl

theorem execWrite_withSamples (len : Nat) (ht : execWrite len s = .next t) :
    execWrite len (s.withSamples bs err code) = .next (t.withSamples bs err code) := by
  cases hc : s.configured with
  | false =>
    rw [execWrite_notConfigured s len hc] at ht
    cases ht
    exact execWrite_notConfigured (s.withSamples bs err code) len hc
  | true =>
    by_cases hl : s.bs < len
    · rw [execWrite_tooLong s len hc hl] at ht
      cases ht
      exact execWrite_tooLong (s.withSamples bs err code) len hc hl
    · have hdrain := appendDrain_withSamples s bs code err (s.writeData len)
      rw [execWrite_accepted s len hc (by omega)] at ht
      cases ht
      rw [execWrite_accepted (s.withSamples bs err code) len hc (Nat.le_of_not_lt hl)]
      exact congrArg (fun u : State => Host.Outcome.next ((u.countMessage len).respond .ok (BitVec.ofNat 8 len) 0))
        hdrain

theorem execFinalize_withSamples (ht : execFinalize s = .next t) :
    execFinalize (s.withSamples bs err code) = .next (t.withSamples bs err code) := by
  cases hc : s.configured with
  | false =>
    rw [execFinalize_notConfigured s hc] at ht
    cases ht
    exact execFinalize_notConfigured (s.withSamples bs err code) hc
  | true =>
    rw [execFinalize_configured s hc] at ht
    cases ht
    exact execFinalize_configured (s.withSamples bs err code) hc

theorem execReset_withSamples (ht : execReset s = .next t) :
    execReset (s.withSamples bs err code) = .next (t.withSamples bs err code) := by
  cases hc : s.configured with
  | false =>
    rw [execReset_notConfigured s hc] at ht
    cases ht
    exact execReset_notConfigured (s.withSamples bs err code) hc
  | true =>
    rw [execReset_configured s hc] at ht
    cases ht
    exact execReset_configured (s.withSamples bs err code) hc

/-- No command but INIT reads the samples or writes them (R37). -/
theorem exec_withSamples (i : Instr) (hi : i ≠ .init) (ht : exec i s = .next t) :
    exec i (s.withSamples bs err code) = .next (t.withSamples bs err code) := by
  cases i with
  | init => exact absurd rfl hi
  | write len => exact execWrite_withSamples s t bs code err len ht
  | finalize => exact execFinalize_withSamples s t bs code err ht
  | reset => exact execReset_withSamples s t bs code err ht
  | info => cases ht; rfl

/-- A word that is no INIT samples no pin (R37, R55, R137). -/
theorem sample_withPins (w : Word32) (d : Block) (hw : decode w ≠ .ok .init) :
    (s.withPins bs err code).sample w d = (s.sample w d).withPins bs err code := by
  simp [State.sample, State.withPins, wordReadsWrapper_eq_false w hw]

theorem runCommand_withPins (ht : runCommand s = .next t) :
    runCommand (s.withPins bs err code) = .next (t.withPins bs err code) := by
  cases hd : decode s.cmdWord with
  | error e =>
    rw [runCommand_illegal s e hd] at ht
    cases ht
    exact runCommand_illegal (s.withPins bs err code) e hd
  | ok i =>
    rw [runCommand_decoded s i hd] at ht
    exact (runCommand_decoded (s.withPins bs err code) i hd).trans (exec_withPins s t bs code err i ht)

end

/-- Settles O44: running a command reads no pin, only INIT reads the samples, and only INIT's accepting edge takes them. -/
theorem wrapperPinsMatterOnlyToInit : Obligations.WrapperPinsMatterOnlyToInit := by
  intro i s t bs code err ht
  refine ⟨exec_withPins s t bs code err i ht, fun hi => exec_withSamples s t bs code err i hi ht, ?_⟩
  intro c u hc hu
  obtain ⟨-, hkeep⟩ := samplesEndWithInit _ u hu
  constructor
  · rw [issue, sample_withPins s bs code err c.1 c.2 hc]
    exact runCommand_withPins _ u bs code err hu
  · simpa [wordReadsWrapper_eq_false c.1 hc] using hkeep hc

/-! ## PHASE, the accepting edge and the output pins -/

/-- Settles O32, along the things a rising edge can do. -/
theorem phaseOrder : Obligations.PhaseOrder := by
  intro s t hr h
  cases step_effect s t h with
  | reset hr' _ => simp [hr] at hr'
  | stayIdle _ hp hv ht => simp +contextual [ht, hp, hv]
  | accept _ hp hv ht =>
    obtain ⟨g, hg, hacc⟩ := accept_eq s.atEdge s.nextEdge
    rcases hg with rfl | ⟨rfl, -⟩ <;> simp [ht, hacc, hp, hv]
  | wait _ hp _ _ ht => simp +contextual [ht, hp]
  | raiseRequest b _ hp _ _ _ _ ht => simp [ht, hp]
  | requestTaken _ hp _ _ _ ht => simp [ht, hp]
  | answerTaken _ hp _ he hc ht => simp [ht, hp, he, hc]
  | complete _ hp _ hc he ht =>
    obtain ⟨hresp, henc⟩ := runCommand_ends s.atEdge t ht
    simp [hp, hresp, henc, hc, he]
  | stayRespond _ hp hv ht => simp +contextual [ht, hp, hv]
  | responseTaken _ hp hv ht => simp +contextual [ht, hp, hv]

/-- Settles O33: a state that is not BUSY refuses no change of the wrapper, and the edge samples after it. -/
theorem acceptingEdge : Obligations.AcceptingEdge := by
  intro s hp hr hv
  obtain ⟨g, hg, hacc⟩ := accept_eq s.atEdge s.nextEdge
  refine ⟨_, g, rfl, hg.imp id And.left, ?_⟩
  rw [step_run s hr (illegalRewire_of_not_busy s _ (by simp [hp])), hp]
  simp only [hv, if_true, hacc]
  simp only [← wordReadsWrapper_iff, State.sample, State.setEnc, Bool.and_eq_true]
  rfl

section
variable (s : State)

theorem outputs_cmdReady : s.outputs.cmdReady = true ↔ s.nextEdge.rstN = true ∧ s.phase = .idle := by
  simp [State.outputs]

theorem outputs_rspValid : s.outputs.rspValid = true ↔ s.nextEdge.rstN = true ∧ s.phase = .respond := by
  simp [State.outputs]

theorem outputs_encReqValid :
    s.outputs.encReqValid = true ↔ s.nextEdge.rstN = true ∧ s.phase = .busy ∧ s.enc = .request := by
  simp [State.outputs, and_assoc]

theorem outputs_encRspReady :
    s.outputs.encRspReady = true ↔ s.nextEdge.rstN = true ∧ s.phase = .busy ∧ s.enc = .await := by
  simp [State.outputs, and_assoc]

theorem outputs_rspWord : s.outputs.rspWord = if s.outputs.rspValid then some s.rspWord else none := rfl

theorem outputs_rspTag : s.outputs.rspTag = if s.outputs.rspValid then some s.rspTag else none := rfl

theorem outputs_encReqData : s.outputs.encReqData = if s.outputs.encReqValid then s.request else none := rfl

end

/-- Settles O35: each bus is its valid output's choice between the register and nothing. -/
theorem outputPins : Obligations.OutputPins := by
  intro s
  refine ⟨outputs_cmdReady s, outputs_rspValid s, outputs_encReqValid s, outputs_encRspReady s, ?_, ?_, ?_, ?_⟩
  · intro h; simp [outputs_rspWord, outputs_rspTag, h]
  · intro h; simp [outputs_rspWord, outputs_rspTag, h]
  · intro h; simp [outputs_encReqData, h]
  · intro h; simp [outputs_encReqData, h]

end Sys2Proof.Machine
end

section
/-! PROOFS. The handshakes at the ports (R51, R52, R56, R58 to R60): which pins an edge reads, the stages of the cipher
request edge by edge, and what a whole command asks of the wrapper and is answered. -/

namespace Sys2Proof.Machine

/-! ## Pins that an edge does not read -/

section
variable (s : State) (e : Edge)

theorem step_eq_clockEdge (rest : List Edge) (h : s.edges = e :: rest) : step s = clockEdge e (s.setEdges rest) := by
  simp [step, State.nextEdge, State.popEdge, h]

/-- The command pins matter to an accepting edge alone (R52). -/
theorem clockEdge_commandPins (v : Bool) (w : Word32) (d : Block) (h : e.rstN = false ∨ s.phase ≠ .idle) :
    clockEdge { e with cmdValid := v, cmdWord := w, cmdData := d } s = clockEdge e s := by
  rcases h with hr | hp
  · simp [clockEdge, hr]
  · cases hphase : s.phase with
    | idle => exact absurd hphase hp
    | busy => simp only [clockEdge, State.rewire_phase, hphase]; rfl
    | respond => simp only [clockEdge, State.rewire_phase, hphase]

/-- `enc_rsp_valid` matters only where an answer is awaited (R56). -/
theorem busyEdge_answerPin (v : Bool) (h : s.enc ≠ .await) :
    s.busyEdge { e with encRspValid := v } = s.busyEdge e := by
  cases henc : s.enc with
  | await => exact absurd henc h
  | _ => simp only [State.busyEdge, henc]

theorem clockEdge_answerPin (v : Bool) (h : s.phase = .busy → s.enc ≠ .await) :
    clockEdge { e with encRspValid := v } s = clockEdge e s := by
  cases hphase : s.phase with
  | idle => simp only [clockEdge, State.rewire_phase, hphase]; rfl
  | busy =>
    simp only [clockEdge, State.rewire_phase, hphase, busyEdge_answerPin (s.rewire e.rewire) e v (h hphase)]
  | respond => simp only [clockEdge, State.rewire_phase, hphase]

end

/-- Settles O36: with `cmd_ready` at 0 the edge is in reset or finds PHASE other than IDLE. -/
theorem commandsWaitForReady : Obligations.CommandsWaitForReady := by
  intro s
  refine ⟨(outputs_cmdReady s).trans and_comm, ?_⟩
  intro e rest v w d hedges hready
  have hnext : s.nextEdge = e := by simp [State.nextEdge, hedges]
  have hbusy : e.rstN = false ∨ s.phase ≠ .idle := by
    simpa [hready, hnext, imp_iff_not_or] using outputs_cmdReady s
  rw [step_eq_clockEdge s e rest hedges]
  exact clockEdge_commandPins (s.setEdges rest) e v w d hbusy

/-! ## Changes of the wrapper -/

/-- Without reset, an edge that finds PHASE other than BUSY has a next state, under the wrapper as changed, and leaves
the engine's registers alone (R52, R60). -/
theorem step_of_not_busy (s : State) (hr : s.nextEdge.rstN = true) (hp : s.phase ≠ .busy) :
    ∃ t, step s = .next t ∧ t.wrapper = s.nextEdge.rewire.getD s.wrapper ∧ t = t.withRegistersOf s := by
  rw [step_run s hr (illegalRewire_of_not_busy s _ hp)]
  cases hphase : s.phase with
  | idle =>
    refine ⟨_, rfl, ?_⟩
    split
    · obtain ⟨g, -, hacc⟩ := accept_eq s.atEdge s.nextEdge
      rw [hacc]
      exact ⟨rfl, rfl⟩
    · exact ⟨rfl, rfl⟩
  | busy => exact absurd hphase hp
  | respond =>
    refine ⟨_, rfl, ?_⟩
    split <;> exact ⟨rfl, rfl⟩

/-- Settles O43: outside BUSY any change is taken; in BUSY one of the cipher or of `cipher_bs` is refused. -/
theorem wrapperChangesBetweenCommands : Obligations.WrapperChangesBetweenCommands := by
  intro s w hr hw
  constructor
  · intro hp
    obtain ⟨t, ht, hwrapper, hregs⟩ := step_of_not_busy s hr hp
    exact ⟨t, ht, by simp [hwrapper, hw], by rw [hregs]; rfl, by rw [hregs]; rfl, by rw [hregs]; rfl⟩
  · intro hp hchange
    exact step_refused s hr (by simpa [State.illegalRewire, hw, hp] using hchange)

/-! ## The stages of the cipher request -/

section
variable (s : State)

theorem step_busy (hr : s.nextEdge.rstN = true) (hw : s.illegalRewire s.nextEdge.rewire = false)
    (hp : s.phase = .busy) : step s = s.atEdge.busyEdge s.nextEdge := by
  rw [step_run s hr hw, hp]

theorem setEnc_self (g : EncStage) (h : s.enc = g) : s.setEnc g = s := by
  subst h
  rfl

variable (e : Edge)

/-- A command that needs the cipher raises its request once the core's own work is done (R56; log entry 2). -/
theorem busyEdge_start (b : Block) (henc : s.enc = .start) (hq : s.request = some b) :
    s.busyEdge e = .next (s.setEnc (if e.coreDone then .request else .start)) := by
  simp only [State.busyEdge, henc, hq]
  split
  · rfl
  · rw [setEnc_self s .start henc]

/-- The request stands until the wrapper accepts it (R56). -/
theorem busyEdge_request (henc : s.enc = .request) :
    s.busyEdge e = .next (s.setEnc (if e.encReqReady then .await else .request)) := by
  simp only [State.busyEdge, henc]
  split
  · rfl
  · rw [setEnc_self s .request henc]

/-- The core waits for the answer and takes it where it is offered (R56). -/
theorem busyEdge_await (henc : s.enc = .await) :
    s.busyEdge e = .next (s.setEnc (if e.encRspValid then .done else .await)) := by
  simp only [State.busyEdge, henc]
  split
  · rfl
  · rw [setEnc_self s .await henc]

end

/-- Settles O37: each stage by its own edge; a pending request is one that the command makes (HandshakeInv). -/
theorem cipherHandshake : Obligations.CipherHandshake := by
  intro s ⟨_, _, ⟨_, hrequest⟩, _⟩ hr hw
  refine ⟨?_, ?_, ?_, fun _ => rfl, ?_⟩
  · intro hp henc b hq
    rw [step_busy s hr hw hp]
    exact busyEdge_start s.atEdge s.nextEdge b henc hq
  · intro hvalid
    obtain ⟨-, hp, henc⟩ := (outputs_encReqValid s).mp hvalid
    refine ⟨by rw [outputs_encReqData, if_pos hvalid], hrequest (.inl henc), ?_⟩
    rw [step_busy s hr hw hp]
    exact busyEdge_request s.atEdge s.nextEdge henc
  · intro hready
    obtain ⟨-, hp, henc⟩ := (outputs_encRspReady s).mp hready
    rw [step_busy s hr hw hp]
    exact busyEdge_await s.atEdge s.nextEdge henc
  · intro hready e rest v hedges
    have hawait : s.phase = .busy → s.enc ≠ .await := by simpa [hready, hr] using outputs_encRspReady s
    rw [step_eq_clockEdge s e rest hedges]
    exact clockEdge_answerPin (s.setEdges rest) e v hawait

/-- Settles O38, along the things a rising edge can do: outside BUSY the stage is `start`, and within it each stage is
entered by its own transfer. -/
theorem requestStages : Obligations.RequestStages := by
  intro s t ⟨_, _, ⟨hstart, _⟩, _⟩ hr h
  cases step_effect s t h with
  | reset hr' _ => simp [hr] at hr'
  | stayIdle _ hp _ ht => simp [ht, hstart (by simp [hp])]
  | accept _ hp hv ht =>
    obtain ⟨g, hg, hacc⟩ := accept_eq s.atEdge s.nextEdge
    rw [ht, hacc]
    rcases hg with rfl | ⟨rfl, hq⟩
    · simp
    · simp [hp, hv, hq]
  | wait _ _ _ hheld ht =>
    subst t
    rcases hheld with ⟨he, hc⟩ | ⟨he, hc⟩ | ⟨he, hc⟩ | ⟨he, hc⟩ <;> simp [he, hc]
  | raiseRequest b _ hp _ he _ hq ht => simp [ht, hp, he, hq]
  | requestTaken _ _ _ he hc ht => simp [ht, he, hc]
  | answerTaken _ _ _ he hc ht => simp [ht, he, hc]
  | complete _ _ _ _ _ ht =>
    obtain ⟨-, henc⟩ := runCommand_ends s.atEdge t ht
    simp [henc]
  | stayRespond _ hp _ ht => simp [ht, hstart (by simp [hp])]
  | responseTaken _ hp _ ht => simp [ht, hstart (by simp [hp])]

/-! ## A wrapper that never answers -/

/-- While the answer is outstanding and none comes, an edge is used up and nothing else happens (R59). -/
theorem step_silent (s : State) (e : Edge) (l : List Edge) (he : s.edges = e :: l) (hp : s.phase = .busy)
    (henc : s.enc = .await) (hr : e.rstN = true) (hv : e.encRspValid = false) (hw : e.rewire = none) :
    step s = .next (s.setEdges l) := by
  have hnext : s.nextEdge = e := by simp [State.nextEdge, he]
  have hedge : s.atEdge = s.setEdges l := by
    rw [State.atEdge, hnext, hw, State.popEdge, he]
    rfl
  rw [step_busy s (by rw [hnext, hr]) (by rw [hnext, hw]; rfl) hp, busyEdge_await s.atEdge s.nextEdge henc, hnext, hv,
    if_neg Bool.noConfusion, setEnc_self s.atEdge .await henc, hedge]

theorem runEdges_silent (k : Nat) (s : State) (hk : k ≤ s.edges.length) (hp : s.phase = .busy) (henc : s.enc = .await)
    (hsilent : ∀ e ∈ s.edges, e.rstN = true ∧ e.encRspValid = false ∧ e.rewire = none) :
    runEdges k s = .next (s.setEdges (s.edges.drop k)) := by
  induction k generalizing s with
  | zero => rfl
  | succ k ih =>
    cases he : s.edges with
    | nil => simp [he] at hk
    | cons e l =>
      rw [he] at hk hsilent
      obtain ⟨⟨hr, hv, hw⟩, hrest⟩ := List.forall_mem_cons.mp hsilent
      exact runEdges_of_step (step_silent s e l he hp henc hr hv hw)
        (ih (s.setEdges l) (Nat.le_of_succ_le_succ hk) hp henc hrest)

/-- Settles O40, by induction on the edges; BUSY presents no response and no `cmd_ready`. -/
theorem silentCipherHangs : Obligations.SilentCipherHangs := by
  intro k s hk hp henc hsilent
  exact ⟨_, runEdges_silent k s hk hp henc hsilent, rfl, by simp [State.outputs, hp], by simp [State.outputs, hp]⟩

/-! ## The requests of a whole command -/

/-- The blocks that the command in progress has yet to hand to the wrapper. -/
def State.owedRequests (s : State) : List Block :=
  if s.phase = .busy ∧ (s.enc = .start ∨ s.enc = .request) then s.request.toList else []

/-- How many answers the command in progress has yet to take. -/
def State.owedAnswers (s : State) : Nat :=
  if s.phase = .busy ∧ s.enc ≠ .done then s.request.toList.length else 0

theorem requestTransfer_eq (s : State) (hr : s.nextEdge.rstN = true) (hp : s.phase = .busy) :
    s.requestTransfer = if s.enc = .request ∧ s.nextEdge.encReqReady = true then s.request else none := by
  by_cases henc : s.enc = .request <;> simp [State.requestTransfer, State.outputs, hr, hp, henc]

theorem answerTransfer_eq (s : State) (hr : s.nextEdge.rstN = true) (hp : s.phase = .busy) :
    s.answerTransfer = (s.enc == .await && s.nextEdge.encRspValid) := by
  simp [State.answerTransfer, State.outputs, hr, hp]

/-- An edge within a command makes exactly the transfers by which what the command owes shrinks (R56, R58). -/
theorem step_transfers (s t : State) (hr : s.nextEdge.rstN = true) (hp : s.phase = .busy) (hi : s.HandshakeInv)
    (h : step s = .next t) :
    s.requestTransfer.toList ++ t.owedRequests = s.owedRequests ∧
      (if s.answerTransfer then 1 else 0) + t.owedAnswers = s.owedAnswers := by
  rw [requestTransfer_eq s hr hp, answerTransfer_eq s hr hp]
  cases step_effect s t h with
  | wait _ _ _ hheld ht =>
    subst t
    rcases hheld with ⟨he, hc⟩ | ⟨he, hc⟩ | ⟨he, hc⟩ | ⟨he, hc⟩ <;>
      simp [State.owedRequests, State.owedAnswers, he, hc]
  | raiseRequest b _ _ _ he _ hq ht => simp [ht, State.owedRequests, State.owedAnswers, hp, he, hq]
  | requestTaken _ _ _ he hc ht => simp [ht, State.owedRequests, State.owedAnswers, hp, he, hc]
  | answerTaken _ _ _ he hc ht =>
    obtain ⟨b, hq⟩ := Option.isSome_iff_exists.mp (hi.2 (.inr he))
    simp [ht, State.owedRequests, State.owedAnswers, hp, he, hc, hq]
  | complete _ _ _ _ he ht =>
    obtain ⟨hphase, -⟩ := runCommand_ends s.atEdge t ht
    rcases he with he | ⟨he, hq⟩
    · simp [State.owedRequests, State.owedAnswers, hphase, he]
    · simp [State.owedRequests, State.owedAnswers, hphase, he, hq]
  | reset hr' _ => simp [hr] at hr'
  | stayIdle _ hp' _ _ => simp [hp] at hp'
  | accept _ hp' _ _ => simp [hp] at hp'
  | stayRespond _ hp' _ _ => simp [hp] at hp'
  | responseTaken _ hp' _ _ => simp [hp] at hp'

/-- From any point of a command to its response the port carries exactly what the command still owes. -/
theorem transfers_until_response (k : Nat) (s t : State) (hi : s.HandshakeInv) (hbusy : staysBusy k s)
    (hrun : runEdges k s = .next t) (ht : t.phase = .respond) :
    requestsSent k s = s.owedRequests ∧ answersTaken k s = s.owedAnswers := by
  induction k generalizing s with
  | zero =>
    cases hrun
    simp [requestsSent, answersTaken, State.owedRequests, State.owedAnswers, ht]
  | succ k ih =>
    obtain ⟨hp, hr, hnext⟩ := hbusy
    cases hs : step s with
    | next u =>
      obtain ⟨hsent, htaken⟩ := ih u (step_handshakeInv s u hi hs) (hnext u hs) (by simpa [runEdges, hs] using hrun)
      obtain ⟨hreq, hans⟩ := step_transfers s u hr hp hi hs
      simp only [requestsSent, answersTaken, hs]
      rw [hsent, htaken]
      exact ⟨hreq, hans⟩
    | fault r => simp [runEdges, hs] at hrun
    | refused r => simp [runEdges, hs] at hrun

/-- Settles O39: an accepted command owes its request and the answer to it, and by the response owes nothing. -/
theorem requestsOnThePort : Obligations.RequestsOnThePort := by
  intro k s a t hp hr hv hstep hbusy hrun ht
  obtain ⟨g, hg, hacc⟩ := accept_eq s.atEdge s.nextEdge
  have ha : a = (s.atEdge.sample s.nextEdge.cmdWord s.nextEdge.cmdData).setEnc g := by
    rw [step_run s hr (illegalRewire_of_not_busy s _ (by simp [hp])), hp] at hstep
    simpa [hv, hacc] using hstep.symm
  have hinv : a.HandshakeInv := by
    subst a
    rcases hg with rfl | ⟨rfl, hq⟩
    · exact handshakeInv_of_start _ rfl
    · simp [State.HandshakeInv, hq]
  have howed : a.owedRequests = a.request.toList ∧ a.owedAnswers = a.request.toList.length := by
    rcases hg with rfl | ⟨rfl, -⟩ <;> simp [ha, State.owedRequests, State.owedAnswers]
  rw [← howed.2, ← howed.1]
  exact transfers_until_response k a t hinv hbusy hrun ht

end Sys2Proof.Machine
end

section
/-! PROOFS. What a host and the wrapper see of whole commands: one response each (R52, R62), the same outcome on a
repeated INIT or RESET (R67), the data lanes that reach a command (R84), the block that a WRITE processes (R131), and the
cipher request of each command (R58). -/

namespace Sys2Proof.Machine

/-! ## The responses of a host program -/

theorem taken_of_not_respond (s : State) (h : s.phase ≠ .respond) : s.taken = none := by
  simp [State.taken, State.outputs, h]

/-- Before PHASE is RESPOND an edge shows the host no response (R51). -/
theorem observe_of_step (k : Nat) (s t : State) (hp : s.phase ≠ .respond) (h : step s = .next t) :
    observe (k + 1) s = observe k t := by
  simp [observe, h, taken_of_not_respond s hp]

/-- The host takes the response that the registers hold (R30, R52). -/
theorem observe_ready_respond (k : Nat) (t : State) (l : List Edge) :
    observe (k + 1) (t.withControl .respond .start (Edge.ready :: l)) =
      t.response :: observe k (t.withControl .idle .start l) := rfl

theorem observe_append (m n : Nat) (s t : State) (h : runEdges m s = .next t) :
    observe (m + n) s = observe m s ++ observe n t := by
  induction m generalizing s with
  | zero => cases h; simp [observe]
  | succ m ih =>
    rw [Nat.add_right_comm]
    cases hs : step s with
    | next u => simp [observe, hs, ih u (by simpa [runEdges, hs] using h)]
    | fault r => simp [runEdges, hs] at h
    | refused r => simp [runEdges, hs] at h

section
variable (c : Word32 × Block) (s : State) (g : EncStage) (l : List Edge) (t : State) (h : issue c s = .next t)
include h

/-- A command that makes no cipher request presents its response after two edges, and the third takes it. -/
theorem observe_noRequest (hq : (s.sample c.1 c.2).request = none) :
    observe 5 (s.withControl .idle g (commandEdges c ++ l)) = [t.response] := by
  have haccept := step_presenting s (.ready :: .ready :: .ready :: .ready :: l) c g
  rw [hq] at haccept
  rw [commandEdges_append]
  calc observe 5 (s.withControl .idle g _)
    _ = observe 4 ((s.sample c.1 c.2).withControl .busy .start _) := observe_of_step 4 _ _ Phase.noConfusion haccept
    _ = observe 3 (t.withControl .respond .start _) :=
      observe_of_step 3 _ _ Phase.noConfusion (step_ready_noRequest _ _ t hq h)
    _ = t.response :: observe 2 (t.withControl .idle .start _) := observe_ready_respond 2 t _
    _ = [t.response] := by
      rw [observe_of_step 1 _ _ Phase.noConfusion (step_ready_idle t _ .start),
        observe_of_step 0 _ _ Phase.noConfusion (step_ready_idle t l .start)]
      rfl

/-- A command that makes a cipher request presents its response after four edges, and the fifth takes it. -/
theorem observe_request (b : Block) (hq : (s.sample c.1 c.2).request = some b) :
    observe 5 (s.withControl .idle g (commandEdges c ++ l)) = [t.response] := by
  have haccept := step_presenting s (.ready :: .ready :: .ready :: .ready :: l) c g
  rw [hq] at haccept
  rw [commandEdges_append]
  calc observe 5 (s.withControl .idle g _)
    _ = observe 4 ((s.sample c.1 c.2).withControl .busy .request _) := observe_of_step 4 _ _ Phase.noConfusion haccept
    _ = observe 3 ((s.sample c.1 c.2).withControl .busy .await _) :=
      observe_of_step 3 _ _ Phase.noConfusion (step_ready_request _ _)
    _ = observe 2 ((s.sample c.1 c.2).withControl .busy .done _) :=
      observe_of_step 2 _ _ Phase.noConfusion (step_ready_await _ _)
    _ = observe 1 (t.withControl .respond .start _) :=
      observe_of_step 1 _ _ Phase.noConfusion (step_ready_done _ _ t h)
    _ = [t.response] := observe_ready_respond 0 t l

/-- The five edges of a command show the host one response, and it is the command's own. -/
theorem observe_command : observe 5 (s.withControl .idle g (commandEdges c ++ l)) = [t.response] := by
  cases hq : (s.sample c.1 c.2).request with
  | none => exact observe_noRequest c s g l t h hq
  | some b => exact observe_request c s g l t h b hq

theorem issueResponses_of_issue (cs : List (Word32 × Block)) :
    issueResponses (c :: cs) s = t.response :: issueResponses cs t := by
  simp [issueResponses, h]

end

/-- The responses on the pins, for every start of the control state, as in `runEdges_program`. -/
theorem observe_program (cs : List (Word32 × Block)) (s : State) (rest : List Edge) :
    observe (5 * cs.length) (s.withControl .idle s.enc (cs.flatMap commandEdges ++ rest)) = issueResponses cs s := by
  induction cs generalizing s with
  | nil => rfl
  | cons c cs ih =>
    obtain ⟨u, hu, henc, hedges⟩ := runEdges_command c s s.enc (cs.flatMap commandEdges ++ rest)
    rw [← henc] at hedges
    rw [List.flatMap_cons, List.append_assoc, List.length_cons, Nat.mul_succ, Nat.add_comm,
      observe_append 5 _ _ _ hedges, observe_command c s s.enc _ u hu, ih u, issueResponses_of_issue c s u hu]
    rfl

theorem issueResponses_length (cs : List (Word32 × Block)) (s : State) : (issueResponses cs s).length = cs.length := by
  induction cs generalizing s with
  | nil => rfl
  | cons c cs ih =>
    obtain ⟨t, ht, -⟩ := runCommand_next (s.sample c.1 c.2)
    rw [issueResponses_of_issue c s t ht, List.length_cons, List.length_cons, ih t]

/-- Settles O10, by induction on the commands. -/
theorem everyCommandIsAnsweredOnce : Obligations.EveryCommandIsAnsweredOnce := by
  intro cs s rest hp he
  have hs : s = s.withControl .idle s.enc (cs.flatMap commandEdges ++ rest) := by
    rw [← hp, ← he]
    rfl
  have hobserve := observe_program cs s rest
  rw [← hs] at hobserve
  exact ⟨hobserve, issueResponses_length cs s⟩

/-! ## INIT and RESET again -/

section
variable (s t : State) (w : Word32) (d : Block)

/-- An INIT reads nothing that it or its acceptance writes, but from the wrapper (R67, R111). -/
theorem execInit_again (hw : wordReadsWrapper w = true) (h : execInit (s.sample w d) = .next t) :
    execInit (t.sample w d) = .next t := by
  cases he : s.wrapper.cipherErr with
  | true =>
    rw [execInit_cipherError _ (by simp [hw, he])] at h
    cases h
    rw [execInit_cipherError _ (by simp [hw, he])]
    simp [State.sample, State.dropSamples, State.zeroize, State.raise, State.respond, hw, he]
  | false =>
    cases hb : toBlockSize s.wrapper.cipherBs with
    | none =>
      rw [execInit_badSize _ (by simp [hw, he]) (by simp [State.sampledBlockSize, hw, hb])] at h
      cases h
      rw [execInit_badSize _ (by simp [hw, he]) (by simp [State.sampledBlockSize, hw, hb])]
      rfl
    | some b =>
      rw [execInit_done _ b (by simp [hw, he]) (by simp [State.sampledBlockSize, hw, hb])] at h
      cases h
      rw [execInit_done _ b (by simp [hw, he]) (by simp [State.sampledBlockSize, hw, hb])]
      rfl

/-- A RESET reads CONFIGURED alone, and keeps it (R67, R136). -/
theorem execReset_again (hw : wordReadsWrapper w = false) (h : execReset (s.sample w d) = .next t) :
    execReset (t.sample w d) = .next t := by
  cases hc : s.configured with
  | false =>
    rw [execReset_notConfigured (s.sample w d) hc] at h
    cases h
    rw [execReset_notConfigured (((s.sample w d).raise .notConfigured 0).sample w d) hc]
    simp [State.sample, State.raise, State.respond, hw]
  | true =>
    rw [execReset_configured (s.sample w d) hc] at h
    cases h
    rw [execReset_configured (((s.sample w d).clearMessage.respond .ok 0 0).sample w d) hc]
    simp [State.sample, State.clearMessage, State.respond, hw]

end

/-- Settles O17: both read of the state only what the first run leaves as it found it. -/
theorem initAndResetAreIdempotent : Obligations.InitAndResetAreIdempotent := by
  rintro ⟨w, d⟩ s t (hi | hi) h
  · rw [issue, runCommand_decoded (s.sample w d) .init hi] at h
    rw [issue, runCommand_decoded (t.sample w d) .init hi]
    exact execInit_again s t w d ((wordReadsWrapper_iff w).mpr hi) h
  · rw [issue, runCommand_decoded (s.sample w d) .reset hi] at h
    rw [issue, runCommand_decoded (t.sample w d) .reset hi]
    exact execReset_again s t w d (wordReadsWrapper_eq_false w (by simp [hi])) h

/-! ## WRITE that processes a block -/

/-- Settles O19: APPEND_DRAIN drains, and its PLEN is a remainder of at most 16 bytes. -/
theorem writeDrainsOneBlock : Obligations.WriteDrainsOneBlock := by
  intro s len hi hc hl hlong bs c
  obtain ⟨hsize, hp, -⟩ := hi.1 hc
  have hbs : s.bs ≤ 16 := by rcases bs_cases s hsize with h | h <;> omega
  have hdata : (s.writeData len).length = len := by
    rw [writeData_length]
    exact Nat.min_eq_left (hl.trans hbs)
  have hplen := appendDrain_plen s (s.writeData len) hbs hp (by rw [hdata]; exact hl)
  rw [hdata, if_neg (show ¬ s.plen.toNat + len ≤ s.bs from Nat.not_le.mpr hlong)] at hplen
  refine ⟨(s.appendDrain (s.writeData len)).plen, hplen, ?_⟩
  show execWrite len s = _
  have hdrain := appendDrain_drain s (s.writeData len) (by
    rw [buffered_length_of_le s _ hbs hp, hdata]
    exact hlong)
  rw [execWrite_accepted s len hc hl, hdrain, ← hc]
  rfl

/-! ## The data lanes that reach a command -/

/-- The state with other sampled data. -/
def State.withData (d : Block) (s : State) : State := { s with cmdData := d }

section
variable (s t : State) (d : Block)

theorem appendDrain_withData (l : List Byte) : (s.withData d).appendDrain l = (s.appendDrain l).withData d := by
  by_cases hc : s.bs < (s.buffered l).length
  · rw [appendDrain_drain s l hc, appendDrain_drain (s.withData d) l hc]
    rfl
  · rw [appendDrain_hold s l (by omega), appendDrain_hold (s.withData d) l (Nat.le_of_not_lt hc)]
    rfl

theorem execInit_withData (ht : execInit s = .next t) : execInit (s.withData d) = .next (t.withData d) := by
  cases he : s.smpErr with
  | true =>
    rw [execInit_cipherError s he] at ht
    cases ht
    exact execInit_cipherError (s.withData d) he
  | false =>
    cases hb : s.sampledBlockSize with
    | none =>
      rw [execInit_badSize s he hb] at ht
      cases ht
      exact execInit_badSize (s.withData d) he hb
    | some b =>
      rw [execInit_done s b he hb] at ht
      cases ht
      exact execInit_done (s.withData d) b he hb

/-- A WRITE reads the first LEN lanes (R84). -/
theorem execWrite_withData (len : Nat) (hd : ∀ k, k < len → k < 16 → lane d k = lane s.cmdData k)
    (ht : execWrite len s = .next t) : execWrite len (s.withData d) = .next (t.withData d) := by
  cases hc : s.configured with
  | false =>
    rw [execWrite_notConfigured s len hc] at ht
    cases ht
    exact execWrite_notConfigured (s.withData d) len hc
  | true =>
    by_cases hl : s.bs < len
    · rw [execWrite_tooLong s len hc hl] at ht
      cases ht
      exact execWrite_tooLong (s.withData d) len hc hl
    · have hdata : (s.withData d).writeData len = s.writeData len :=
        take_blockBytes_congr d s.cmdData len fun k hk => hd k (by omega) (by omega)
      rw [execWrite_accepted s len hc (by omega)] at ht
      cases ht
      rw [execWrite_accepted (s.withData d) len hc (Nat.le_of_not_lt hl), hdata, appendDrain_withData]
      rfl

theorem execFinalize_withData (ht : execFinalize s = .next t) : execFinalize (s.withData d) = .next (t.withData d) := by
  cases hc : s.configured with
  | false =>
    rw [execFinalize_notConfigured s hc] at ht
    cases ht
    exact execFinalize_notConfigured (s.withData d) hc
  | true =>
    rw [execFinalize_configured s hc] at ht
    cases ht
    exact execFinalize_configured (s.withData d) hc

theorem execReset_withData (ht : execReset s = .next t) : execReset (s.withData d) = .next (t.withData d) := by
  cases hc : s.configured with
  | false =>
    rw [execReset_notConfigured s hc] at ht
    cases ht
    exact execReset_notConfigured (s.withData d) hc
  | true =>
    rw [execReset_configured s hc] at ht
    cases ht
    exact execReset_configured (s.withData d) hc

end

/-- Settles O22, command by command. -/
theorem unusedDataLanesAreIgnored : Obligations.UnusedDataLanesAreIgnored := by
  intro i s t d hd ht
  cases i with
  | init => exact execInit_withData s t d ht
  | write len => exact execWrite_withData s t d len (hd len rfl) ht
  | finalize => exact execFinalize_withData s t d ht
  | reset => exact execReset_withData s t d ht
  | info => cases ht; rfl

/-! ## The cipher request of each command -/

/-- The words that R86 lists do not decode. -/
theorem decode_illegalWord (w : Word32) (h : illegalWord w) : ∃ e, decode w = .error e := by
  rcases h with hop | hrsvd | ⟨hop, hlen⟩
  · have hne (op : Byte) (h0 : op ≠ 0) (h6 : op.toNat < 6) : opField w ≠ op := by
      rintro rfl
      exact hop.elim h0 (Nat.not_le.mpr h6)
    simp only [decode, hne 1 (by decide) (by decide), hne 2 (by decide) (by decide), hne 3 (by decide) (by decide),
      hne 4 (by decide) (by decide), hne 5 (by decide) (by decide), if_false]
    split
    · exact ⟨_, rfl⟩
    · split <;> exact ⟨_, rfl⟩
  · exact ⟨.reservedBitsSet, if_pos hrsvd⟩
  · have hwrite : opField w ≠ 2 := by
      rcases hop with h | h | h | h <;> simp [opField, h]
    have hlen' : lenField w ≠ 0 := hlen
    simp only [decode, if_neg hwrite, if_pos hlen']
    split <;> exact ⟨_, rfl⟩

section
variable (s t : State)

/-- A WRITE that holds requests nothing (R58, R132). -/
theorem commandRequest_write_hold (len : Nat) (h : (s.buffered (s.writeData len)).length ≤ s.bs) :
    commandRequest (.write len) s = none := by
  simp only [commandRequest, if_neg (Nat.not_lt.mpr h), ite_self]

/-- A command that makes a request answers OK (R58). -/
theorem exec_status_of_request (i : Instr) (b : List Byte) (hq : commandRequest i s = some b)
    (ht : exec i s = .next t) : statusField t.rspWord = 0x00 := by
  cases i with
  | init =>
    change execInit s = _ at ht
    cases he : s.smpErr with
    | true => simp [commandRequest, he] at hq
    | false =>
      cases hb : s.sampledBlockSize with
      | none => simp [commandRequest, he, hb] at hq
      | some b =>
        rw [execInit_done s b he hb] at ht
        cases ht
        exact statusField_responseWord .ok _ _
  | write len =>
    change execWrite len s = _ at ht
    cases hc : s.configured with
    | false => simp [commandRequest, hc] at hq
    | true =>
      by_cases hl : s.bs < len
      · simp [commandRequest, hl] at hq
      · rw [execWrite_accepted s len hc (by omega)] at ht
        cases ht
        exact statusField_responseWord .ok _ _
  | finalize =>
    change execFinalize s = _ at ht
    cases hc : s.configured with
    | false => simp [commandRequest, hc] at hq
    | true =>
      rw [execFinalize_configured s hc] at ht
      cases ht
      exact statusField_responseWord .ok _ _
  | reset => simp [commandRequest] at hq
  | info => simp [commandRequest] at hq

theorem request_decoded (i : Instr) (hd : decode s.cmdWord = .ok i) :
    s.request = (commandRequest i s).map blockOfBytes := by
  simp [State.request, hd]

/-- An illegal word asks nothing of the cipher (R58). -/
theorem request_illegal (e : Illegal) (hd : decode s.cmdWord = .error e) : s.request = none := by
  simp [State.request, hd]

end

/-- Settles O41, command by command; a command that makes a request answers OK, and an illegal word makes none. -/
theorem requestsPerCommand : Obligations.RequestsPerCommand := by
  intro s hi
  refine ⟨?_, ?_, ?_, rfl, rfl, ?_, ?_, request_decoded s⟩
  · intro b he hb
    exact commandRequest_init s b he (sampledBlockSize_of_blockLen s b hb)
  · intro hc len hl
    obtain ⟨hsize, hp, -⟩ := hi.1 hc
    have hbs : s.bs ≤ 16 := by rcases bs_cases s hsize with h | h <;> omega
    have hlen : (s.buffered (s.writeData len)).length = s.plen.toNat + len := by
      rw [buffered_length_of_le s _ hbs hp, writeData_length, Nat.min_eq_left (hl.trans hbs)]
    split
    · rename_i hlong
      exact commandRequest_write s len hc hl (by rw [hlen]; exact hlong)
    · rename_i hshort
      exact commandRequest_write_hold s len (by rw [hlen]; exact Nat.not_lt.mp hshort)
  · intro hc
    obtain ⟨hsize, -⟩ := hi.1 hc
    refine ⟨s.padSelect, commandRequest_finalize s hc, ?_, rfl⟩
    rw [padSelect_length]
    exact Nat.min_eq_left (by rcases bs_cases s hsize with h | h <;> omega)
  · intro i t ht hst
    cases hq : commandRequest i s with
    | none => rfl
    | some b => exact absurd (exec_status_of_request s t i b hq ht) hst
  · intro hw
    obtain ⟨e, hd⟩ := decode_illegalWord s.cmdWord hw
    exact request_illegal s e hd

end Sys2Proof.Machine
end

section
/-! PROOFS. The command words (R80 to R88): what the fields of a word say of its decoding, both ways; and the response
words (R89, R90). -/

namespace Sys2Proof.Machine

/-! ## Decoding by fields -/

/-- A word whose fields are those of a well-formed command decodes to it (R85, R88). -/
theorem decode_of_fields (w : Word32) (i : Instr) (hop : opField w = i.opcode) (hlen : lenField w = i.lenByte)
    (hrsvd : rsvdField w = 0) (hi : i.wellFormed = true) : decode w = .ok i := by
  cases i with
  | write len =>
    have hlt : len < 256 := by simpa [Instr.wellFormed, Instr.lenFits] using hi
    simp [decode, hop, hlen, hrsvd, Instr.opcode, Instr.lenByte, Nat.mod_eq_of_lt hlt]
  | _ => simp [decode, hop, hlen, hrsvd, Instr.opcode, Instr.lenByte]

/-- LEN, read as a count, is the LEN of the WRITE with that count (R82). -/
theorem lenByte_write_lenField (w : Word32) : lenField w = (Instr.write (lenField w).toNat).lenByte := by
  simp [Instr.lenByte]

/-- Any LEN makes a well-formed WRITE (R82). -/
theorem wellFormed_write_lenField (w : Word32) : (Instr.write (lenField w).toNat).wellFormed = true :=
  decide_eq_true (lenField w).isLt

/-- A word that decodes has the fields of its command, and that command is well-formed (R82, R83, R88). -/
theorem fields_of_decode (w : Word32) (i : Instr) (h : decode w = .ok i) :
    opField w = i.opcode ∧ lenField w = i.lenByte ∧ rsvdField w = 0 ∧ i.wellFormed = true := by
  unfold decode at h
  split at h
  · cases h
  next hrsvd =>
    have hrsvd := not_not.mp hrsvd
    split at h
    next hop =>
      cases h
      exact ⟨hop, lenByte_write_lenField w, hrsvd, wellFormed_write_lenField w⟩
    split at h
    · cases h
    next hlen =>
      have hlen := not_not.mp hlen
      split at h
      next hop => cases h; exact ⟨hop, hlen, hrsvd, rfl⟩
      split at h
      next hop => cases h; exact ⟨hop, hlen, hrsvd, rfl⟩
      split at h
      next hop => cases h; exact ⟨hop, hlen, hrsvd, rfl⟩
      split at h
      next hop => cases h; exact ⟨hop, hlen, hrsvd, rfl⟩
      cases h

/-- Settles O1: the encoded word has the command's fields. -/
theorem decodeOfEncode : Obligations.DecodeOfEncode := by
  intro i hi
  obtain ⟨hop, hlen, hrsvd⟩ := encode_fields i
  exact decode_of_fields (encode i) i hop hlen hrsvd hi

/-- Settles O2: a word is put together from its three fields, and they are the command's. -/
theorem encodeOfDecode : Obligations.EncodeOfDecode := by
  intro w i h
  obtain ⟨hop, hlen, hrsvd, hi⟩ := fields_of_decode w i h
  refine ⟨?_, hi⟩
  calc encode i
    _ = (opField w).setWidth 32 ||| (lenField w).setWidth 32 <<< 8 ||| (rsvdField w).setWidth 32 <<< 16 := by
      rw [hop, hlen, hrsvd, packed_zero, encode]
    _ = w := packed_fields w

/-! ## The opcode map and the illegal words -/

theorem decode_writeWord (k : Nat) (hk : k < 256) :
    decode (0x00000002 ||| BitVec.ofNat 32 k <<< 8) = .ok (.write k) := by
  have hword : encode (.write k) = 0x00000002 ||| BitVec.ofNat 32 k <<< 8 := by
    simp [encode, Instr.opcode, Instr.lenByte, BitVec.setWidth_ofNat_of_le_of_lt (show 8 ≤ 32 by decide) hk]
  rw [← hword]
  exact decodeOfEncode (.write k) (decide_eq_true hk)

/-- A word without LEN and RSVD whose OP is reserved is illegal (R86). -/
theorem illegalWord_ofNat (op : Nat) (h : op = 0 ∨ (6 ≤ op ∧ op < 256)) : illegalWord (BitVec.ofNat 32 op) := by
  left
  rcases h with rfl | ⟨h6, hlt⟩
  · exact .inl rfl
  · right
    simp
    omega

/-- Settles O3: each of the words is the encoding of its command, or on R86's list. -/
theorem opcodeMap : Obligations.OpcodeMap :=
  ⟨decodeOfEncode .init rfl, decode_writeWord, decodeOfEncode .finalize rfl, decodeOfEncode .reset rfl,
    decodeOfEncode .info rfl, fun op hop => decode_illegalWord _ (illegalWord_ofNat op hop)⟩

theorem opcode_cases (op : Byte) (h : ¬(op = 0 ∨ 6 ≤ op.toNat)) : op = 1 ∨ op = 2 ∨ op = 3 ∨ op = 4 ∨ op = 5 := by
  bv_omega

/-- A word that is not on R86's list decodes. -/
theorem decode_of_not_illegalWord (w : Word32) (h : ¬illegalWord w) : ∃ i, decode w = .ok i := by
  obtain ⟨hop, hrest⟩ := not_or.mp h
  obtain ⟨hrsvd, hlen⟩ := not_or.mp hrest
  have hrsvd : rsvdField w = 0 := not_not.mp hrsvd
  have hlen (hop : opField w = 1 ∨ opField w = 3 ∨ opField w = 4 ∨ opField w = 5) : lenField w = 0 :=
    not_not.mp fun hne => hlen ⟨hop, hne⟩
  rcases opcode_cases _ hop with h1 | h2 | h3 | h4 | h5
  · exact ⟨.init, decode_of_fields w _ h1 (hlen (.inl h1)) hrsvd rfl⟩
  · exact ⟨.write (lenField w).toNat,
      decode_of_fields w _ h2 (lenByte_write_lenField w) hrsvd (wellFormed_write_lenField w)⟩
  · exact ⟨.finalize, decode_of_fields w _ h3 (hlen (.inr (.inl h3))) hrsvd rfl⟩
  · exact ⟨.reset, decode_of_fields w _ h4 (hlen (.inr (.inr (.inl h4)))) hrsvd rfl⟩
  · exact ⟨.info, decode_of_fields w _ h5 (hlen (.inr (.inr (.inr h5)))) hrsvd rfl⟩

/-- Settles O5: a word on R86's list does not decode, and every other word does. -/
theorem illegalWordsExactly : Obligations.IllegalWordsExactly := by
  intro w
  refine ⟨?_, decode_illegalWord w⟩
  rintro ⟨e, he⟩
  by_contra hlegal
  obtain ⟨i, hi⟩ := decode_of_not_illegalWord w hlegal
  cases he.symm.trans hi

/-- Settles O4: the twelve words, each decoded. -/
theorem commandWordsDecode : Obligations.CommandWordsDecode := by
  unfold Obligations.CommandWordsDecode
  decide

/-! ## The response word -/

theorem countField_responseWord (st : Status) (c : Byte) (conf : Bool) :
    countField (responseWord st c conf) = c := by
  rw [responseWord_packed]
  exact packed_mid _ _ _

theorem confFlag_eq_ite (conf : Bool) : confFlag conf = if conf = true then 0x00010000 else 0 := by
  cases conf <;> rfl

/-- Every command loads a response word whose CONF is CONFIGURED after the command (R89). -/
theorem runCommand_rspWord (s t : State) (h : runCommand s = .next t) :
    ∃ (st : Status) (count : Byte), t.rspWord = responseWord st count t.configured := by
  cases runCommand_effect s t h with
  | _ => subst t; exact ⟨_, _, rfl⟩

/-- Settles O27: `respond` loads the word that R89 writes out, and every command ends with it. -/
theorem responseWordFields : Obligations.ResponseWordFields := by
  refine ⟨fun st count tag s => ⟨?_, rfl⟩, fun st count conf => ?_, runCommand_rspWord⟩
  · rw [State.respond_rspWord, responseWord, confFlag_eq_ite]
  · exact ⟨statusField_responseWord st count conf, countField_responseWord st count conf,
      confField_responseWord st count conf, zeroField_responseWord st count conf⟩

/-- Settles O28, one case for each way a command can end. -/
theorem countPerCommand : Obligations.CountPerCommand := by
  intro s t h
  cases runCommand_effect s t h with
  | notConfigured i hd hc hi ht =>
    subst t
    rcases hi with ⟨len, rfl⟩ | rfl | rfl <;>
      simp [hd, countField_responseWord, statusField_responseWord, Status.code]
  | illegal _ hd ht | initError hd _ ht | initBadSize hd _ _ ht | initDone _ hd _ _ ht | tooLong _ hd _ _ ht
  | written _ hd _ _ ht | finalized hd _ ht | cleared hd _ ht | reported hd ht =>
    subst t
    simp [hd, countField_responseWord, statusField_responseWord, Status.code]

end Sys2Proof.Machine
end

section
/-! PROOFS. Messages (R93, R139 to R141): how a message is cut into beats, what a beat appends to the chain and the
pending bytes, and what the tag is of. -/

namespace Sys2Proof.Machine

/-! ## The beats of WRITEMSG -/

section
variable (n fuel : Nat) (m : List Byte)

theorem cutBeats_nil : cutBeats n fuel [] = [] := by
  cases fuel <;> rfl

theorem cutBeats_of_ne_nil (h : m ≠ []) : cutBeats n (fuel + 1) m = m.take n :: cutBeats n fuel (m.drop n) := by
  simp [cutBeats, h]

theorem cutBeats_flatten (hn : 0 < n) (h : m.length ≤ fuel) : (cutBeats n fuel m).flatten = m := by
  induction fuel generalizing m with
  | zero =>
    rw [List.length_eq_zero_iff.mp (Nat.le_zero.mp h)]
    rfl
  | succ fuel ih =>
    by_cases hm : m = []
    · rw [hm, cutBeats_nil]
      rfl
    · have hrest : (m.drop n).length ≤ fuel := by
        rw [List.length_drop]
        omega
      rw [cutBeats_of_ne_nil n fuel m hm, List.flatten_cons, ih _ hrest, List.take_append_drop]

theorem length_of_mem_cutBeats (hn : 0 < n) (d : List Byte) (h : d ∈ cutBeats n fuel m) :
    1 ≤ d.length ∧ d.length ≤ n := by
  induction fuel generalizing m with
  | zero => cases h
  | succ fuel ih =>
    by_cases hm : m = []
    · rw [hm, cutBeats_nil] at h
      cases h
    · rw [cutBeats_of_ne_nil n fuel m hm] at h
      rcases List.mem_cons.mp h with rfl | hrest
      · have hpos := List.length_pos_of_ne_nil hm
        rw [List.length_take]
        omega
      · exact ih _ hrest

/-- A beat with another one after it is a full block: bytes are left over. -/
theorem length_of_mem_dropLast_cutBeats (d : List Byte) (h : d ∈ (cutBeats n fuel m).dropLast) : d.length = n := by
  induction fuel generalizing m with
  | zero => cases h
  | succ fuel ih =>
    by_cases hm : m = []
    · rw [hm, cutBeats_nil] at h
      cases h
    · rw [cutBeats_of_ne_nil n fuel m hm] at h
      by_cases hlast : cutBeats n fuel (m.drop n) = []
      · rw [hlast] at h
        cases h
      · rw [List.dropLast_cons_of_ne_nil hlast] at h
        rcases List.mem_cons.mp h with rfl | hrest
        · have hleft : m.drop n ≠ [] := fun hnil => hlast (by rw [hnil, cutBeats_nil])
          have hlt : n < m.length := by simpa using hleft
          rw [List.length_take, Nat.min_eq_left hlt.le]
        · exact ih _ hrest

end

/-- Settles O54, each part by induction on the fuel, which the message's length is enough of. -/
theorem writeMsgBeats : Obligations.WriteMsgBeats := by
  intro n m hn
  refine ⟨cutBeats_flatten n _ m hn le_rfl, length_of_mem_cutBeats n _ m hn,
    length_of_mem_dropLast_cutBeats n _ m, ?_⟩
  rintro rfl
  rfl

/-! ## What a beat appends to the processed blocks and to the rest of a message -/

/-- The blocks processed of `t` bytes: all but the last one, which may be full (R139). -/
theorem processedBlocks_eq (bs t p : Nat) (hbs : 0 < bs) (hlo : p = 0 ∨ p * bs < t) (hhi : t ≤ p * bs + bs) :
    processedBlocks bs t = p := by
  apply Nat.div_eq_of_lt_le
  · rcases hlo with rfl | hlt <;> omega
  · rw [Nat.succ_mul]
    omega

theorem processedBlocks_bounds (bs t : Nat) (hbs : 0 < bs) :
    (processedBlocks bs t = 0 ∨ processedBlocks bs t * bs < t) ∧ t ≤ processedBlocks bs t * bs + bs := by
  unfold processedBlocks
  have hlo := Nat.div_mul_le_self (t - 1) bs
  have hhi := Nat.lt_div_mul_add (a := t - 1) hbs
  refine ⟨?_, by omega⟩
  rcases Nat.eq_zero_or_pos t with rfl | ht
  · exact .inl (Nat.zero_div bs)
  · exact .inr (by omega)

/-- The chaining value when all but the rest of `m` has been processed (R140). -/
def messageChain (E : List Byte → List Byte) (bs : Nat) (m : List Byte) : List Byte :=
  chainValue E bs m (processedBlocks bs m.length)

section
variable (E : List Byte → List Byte) (bs : Nat) (m d : List Byte)

theorem messageChain_nil : messageChain E bs [] = zeros bs := by
  simp [messageChain, processedBlocks, chainValue]

theorem messageRest_nil : messageRest bs [] = [] := List.drop_nil

theorem chainValue_length (hE : ∀ b, (E b).length = bs) (j : Nat) : (chainValue E bs m j).length = bs := by
  cases j with
  | zero => exact zeros_length bs
  | succ j => exact hE _

/-- The chaining value after `j` blocks depends on those blocks alone (R140). -/
theorem chainValue_append (j : Nat) (h : j * bs ≤ m.length) : chainValue E bs (m ++ d) j = chainValue E bs m j := by
  induction j with
  | zero => rfl
  | succ j ih =>
    rw [Nat.succ_mul] at h
    have hblock : ((m ++ d).drop (j * bs)).take bs = (m.drop (j * bs)).take bs := by
      rw [List.drop_append_of_le_length (by omega), List.take_append_of_le_length (by rw [List.length_drop]; omega)]
    rw [chainValue, chainValue, ih (by omega), hblock]

section
variable (hbs : 0 < bs)
include hbs

theorem processed_le_length : processedBlocks bs m.length * bs ≤ m.length := by
  rcases processedBlocks_bounds bs m.length hbs with ⟨h | h, -⟩
  · rw [h, Nat.zero_mul]
    exact Nat.zero_le _
  · exact h.le

theorem messageRest_length :
    processedBlocks bs m.length * bs + (messageRest bs m).length = m.length := by
  have hle := processed_le_length bs m hbs
  rw [messageRest, List.length_drop]
  omega

theorem messageRest_length_le : (messageRest bs m).length ≤ bs := by
  have hlen := messageRest_length bs m hbs
  have hhi := (processedBlocks_bounds bs m.length hbs).2
  omega

theorem drop_processed_append :
    (m ++ d).drop (processedBlocks bs m.length * bs) = messageRest bs m ++ d :=
  List.drop_append_of_le_length (processed_le_length bs m hbs)

section
variable (hd : (messageRest bs m).length + d.length ≤ bs)
include hd

/-- A beat that fits beside the rest has no block processed (R132). -/
theorem processedBlocks_append_of_hold : processedBlocks bs (m ++ d).length = processedBlocks bs m.length := by
  have hlen := messageRest_length bs m hbs
  obtain ⟨hlo, -⟩ := processedBlocks_bounds bs m.length hbs
  rw [List.length_append]
  exact processedBlocks_eq bs _ _ hbs (hlo.imp_right fun h => by omega) (by omega)

theorem messageRest_append_of_hold : messageRest bs (m ++ d) = messageRest bs m ++ d := by
  rw [messageRest, processedBlocks_append_of_hold bs m d hbs hd]
  exact drop_processed_append bs m d hbs

theorem messageChain_append_of_hold : messageChain E bs (m ++ d) = messageChain E bs m := by
  rw [messageChain, processedBlocks_append_of_hold bs m d hbs hd]
  exact chainValue_append E bs m d _ (processed_le_length bs m hbs)

end

section
variable (hd : d.length ≤ bs) (hlong : bs < (messageRest bs m).length + d.length)
include hd hlong

/-- A beat of at most one block that does not fit beside the rest has one block processed (R131). -/
theorem processedBlocks_append_of_drain :
    processedBlocks bs (m ++ d).length = processedBlocks bs m.length + 1 := by
  have hlen := messageRest_length bs m hbs
  have hrest := messageRest_length_le bs m hbs
  rw [List.length_append]
  refine processedBlocks_eq bs _ _ hbs (.inr ?_) ?_ <;> rw [Nat.succ_mul] <;> omega

theorem messageRest_append_of_drain : messageRest bs (m ++ d) = (messageRest bs m ++ d).drop bs := by
  rw [messageRest, processedBlocks_append_of_drain bs m d hbs hd hlong, Nat.succ_mul, ← List.drop_drop,
    drop_processed_append bs m d hbs]

theorem messageChain_append_of_drain :
    messageChain E bs (m ++ d) = E (xorBytes (messageChain E bs m) ((messageRest bs m ++ d).take bs)) := by
  rw [messageChain, processedBlocks_append_of_drain bs m d hbs hd hlong, chainValue,
    chainValue_append E bs m d _ (processed_le_length bs m hbs), drop_processed_append bs m d hbs, messageChain]

end
end
end

/-! ## The engine while it takes a message -/

/-- The configured core has taken the message `m` since its INIT or RESET: MSGLEN, X, PB and PLEN are as R33, R139 and
R140 say. -/
structure State.HoldsMessage (s : State) (m : List Byte) : Prop where
  configured : s.configured = true
  size       : s.bsReg = 8 ∨ s.bsReg = 16
  msgLen     : s.msgLen = m.length
  x          : s.x = blockOfBytes (messageChain (s.cipherE s.bs) s.bs m)
  pb         : s.pb = blockOfBytes (messageRest s.bs m)
  plen       : s.plen.toNat = (messageRest s.bs m).length

/-- `t` has the block size, the subkeys and the wrapper of `s`. -/
structure State.SameInstance (s t : State) : Prop where
  bsReg   : t.bsReg = s.bsReg
  k1      : t.k1 = s.k1
  k2      : t.k2 = s.k2
  wrapper : t.wrapper = s.wrapper

/-- The tag of `m` under the cipher and the subkeys of `s` (R141). -/
def State.instanceTag (s : State) (m : List Byte) : List Byte :=
  tagOf (s.cipherE s.bs) s.bs ((blockBytes s.k1).take s.bs) ((blockBytes s.k2).take s.bs) m

namespace State.SameInstance

theorem refl (s : State) : s.SameInstance s := ⟨rfl, rfl, rfl, rfl⟩

theorem trans {s t u : State} (h : s.SameInstance t) (h' : t.SameInstance u) : s.SameInstance u :=
  ⟨h'.bsReg.trans h.bsReg, h'.k1.trans h.k1, h'.k2.trans h.k2, h'.wrapper.trans h.wrapper⟩

theorem bs {s t : State} (h : s.SameInstance t) : t.bs = s.bs := congrArg BitVec.toNat h.bsReg

theorem cipherE {s t : State} (h : s.SameInstance t) : t.cipherE = s.cipherE :=
  congrArg (fun w : Wrapper => ({ s with wrapper := w } : State).cipherE) h.wrapper

theorem instanceTag {s t : State} (h : s.SameInstance t) (m : List Byte) : t.instanceTag m = s.instanceTag m := by
  rw [State.instanceTag, State.instanceTag, h.bs, h.cipherE, h.k1, h.k2]

theorem sample (s : State) (w : Word32) (b : Block) : s.SameInstance (s.sample w b) := ⟨rfl, rfl, rfl, rfl⟩

theorem respond (s : State) (st : Status) (c : Byte) (tag : Block) : s.SameInstance (s.respond st c tag) :=
  ⟨rfl, rfl, rfl, rfl⟩

theorem countMessage (s : State) (k : Nat) : s.SameInstance (s.countMessage k) := ⟨rfl, rfl, rfl, rfl⟩

theorem clearMessage (s : State) : s.SameInstance s.clearMessage := ⟨rfl, rfl, rfl, rfl⟩

theorem appendDrain (s : State) (d : List Byte) : s.SameInstance (s.appendDrain d) := by
  rw [appendDrain_eq]
  exact ⟨rfl, rfl, rfl, rfl⟩

end State.SameInstance

section
variable (s : State) (m d : List Byte)

theorem bs_bounds (h : s.bsReg = 8 ∨ s.bsReg = 16) : 0 < s.bs ∧ s.bs ≤ 16 := by
  rcases bs_cases s h with h | h <;> omega

theorem messageChain_length (h : s.bs ≤ 16) : (messageChain (s.cipherE s.bs) s.bs m).length = s.bs :=
  chainValue_length _ _ _ (fun b => by rw [cipherE_length, Nat.min_eq_left h]) _

theorem holdsMessage_sample (w : Word32) (b : Block) (h : s.HoldsMessage m) : (s.sample w b).HoldsMessage m :=
  ⟨h.configured, h.size, h.msgLen, h.x, h.pb, h.plen⟩

theorem holdsMessage_respond (st : Status) (c : Byte) (tag : Block) (h : s.HoldsMessage m) :
    (s.respond st c tag).HoldsMessage m :=
  ⟨h.configured, h.size, h.msgLen, h.x, h.pb, h.plen⟩

/-- A state with nothing counted, chained or pending holds the empty message. -/
theorem holdsMessage_clearMessage (hc : s.configured = true) (hsize : s.bsReg = 8 ∨ s.bsReg = 16) :
    s.clearMessage.HoldsMessage [] where
  configured := hc
  size := hsize
  msgLen := rfl
  x := by
    rw [messageChain_nil, blockOfBytes_zeros]
    rfl
  pb := by
    rw [messageRest_nil]
    exact (blockOfBytes_zeros 0).symm
  plen := by
    rw [messageRest_nil]
    rfl

section
variable (h : s.HoldsMessage m)
include h

/-- The chaining value the engine works on. -/
theorem chain_of_holdsMessage : s.chain = messageChain (s.cipherE s.bs) s.bs m := by
  obtain ⟨-, hbs⟩ := bs_bounds s h.size
  have hlen := messageChain_length s m hbs
  have htake := take_blockBytes_blockOfBytes (messageChain (s.cipherE s.bs) s.bs m) (by omega)
  rwa [hlen, ← h.x] at htake

/-- The pending bytes the engine works on. -/
theorem pending_of_holdsMessage : s.pending = messageRest s.bs m := by
  obtain ⟨hpos, hbs⟩ := bs_bounds s h.size
  have hle := messageRest_length_le s.bs m hpos
  rw [State.pending, h.pb, h.plen]
  exact take_blockBytes_blockOfBytes _ (by omega)

theorem buffered_of_holdsMessage : s.buffered d = messageRest s.bs m ++ d := by
  rw [State.buffered, pending_of_holdsMessage s m h]

/-- APPEND_DRAIN takes a beat of at most one block (R131, R139, R140). -/
theorem holdsMessage_appendDrain (hd : d.length ≤ s.bs) :
    ((s.appendDrain d).countMessage d.length).HoldsMessage (m ++ d) := by
  obtain ⟨hpos, hbs⟩ := bs_bounds s h.size
  have hrest := messageRest_length_le s.bs m hpos
  have hbuf := buffered_of_holdsMessage s m d h
  have hplen : (BitVec.ofNat 5 (messageRest s.bs (m ++ d)).length).toNat = (messageRest s.bs (m ++ d)).length :=
    Nat.mod_eq_of_lt (((messageRest_length_le s.bs _ hpos).trans hbs).trans_lt (by decide))
  have hmsg : s.msgLen + d.length = (m ++ d).length := by rw [h.msgLen, List.length_append]
  by_cases hc : (messageRest s.bs m).length + d.length ≤ s.bs
  · have hnext := messageRest_append_of_hold s.bs m d hpos hc
    rw [appendDrain_hold s d (by rw [hbuf, List.length_append]; exact hc), hbuf, ← hnext]
    have hchain := messageChain_append_of_hold (s.cipherE s.bs) s.bs m d hpos hc
    exact ⟨h.configured, h.size, hmsg, h.x.trans (congrArg blockOfBytes hchain.symm), rfl, hplen⟩
  · have hc := Nat.lt_of_not_le hc
    have hnext := messageRest_append_of_drain s.bs m d hpos hd hc
    rw [appendDrain_drain s d (by rw [hbuf, List.length_append]; exact hc), hbuf, ← hnext]
    have hchain := messageChain_append_of_drain (s.cipherE s.bs) s.bs m d hpos hd hc
    rw [← chain_of_holdsMessage s m h] at hchain
    exact ⟨h.configured, h.size, hmsg, congrArg blockOfBytes hchain.symm, rfl, hplen⟩

/-- PAD_SELECT gives the message's last block (R133). -/
theorem padSelect_of_holdsMessage :
    s.padSelect =
      lastBlock s.bs ((blockBytes s.k1).take s.bs) ((blockBytes s.k2).take s.bs) (messageRest s.bs m) := by
  have hpending := pending_of_holdsMessage s m h
  unfold State.padSelect lastBlock
  rw [State.padded, hpending, h.plen]
  split
  next hfull => rw [← hpending, State.pending, h.plen, hfull]
  next => rfl

/-- FINALIZE's cipher answer is the message's tag (R135, R141). -/
theorem tag_of_holdsMessage : s.cipherE s.bs s.finalInput = s.instanceTag m := by
  rw [State.finalInput, padSelect_of_holdsMessage s m h, chain_of_holdsMessage s m h]
  rfl

end
end

/-! ## Host programs -/

/-- A well-formed command's word runs the command (R85, R92). -/
theorem issue_encode (s : State) (i : Instr) (b : Block) (hi : i.wellFormed = true) :
    issue (encode i, b) s = exec i (s.sample (encode i) b) :=
  runCommand_decoded (s.sample (encode i) b) i (decodeOfEncode i hi)

theorem issueAll_append (cs ds : List (Word32 × Block)) (s t : State) (h : issueAll cs s = .next t) :
    issueAll (cs ++ ds) s = issueAll ds t := by
  induction cs generalizing s with
  | nil => cases h; rfl
  | cons c cs ih =>
    obtain ⟨u, hu, -⟩ := runCommand_next (s.sample c.1 c.2)
    rw [issueAll_of_issue c cs s u hu] at h
    rw [List.cons_append, issueAll_of_issue c _ s u hu, ih u h]

/-- RESET on a configured core (R136). -/
theorem issue_reset (s : State) (hc : s.configured = true) (hsize : s.bsReg = 8 ∨ s.bsReg = 16) :
    ∃ t, issue Line.reset.command s = .next t ∧ s.SameInstance t ∧ t.HoldsMessage [] := by
  let u := s.sample (encode .reset) 0
  refine ⟨_, (issue_encode s .reset 0 rfl).trans (execReset_configured u hc), ?_,
    holdsMessage_respond _ _ _ _ _ (holdsMessage_clearMessage u hc hsize)⟩
  exact (State.SameInstance.sample s _ _).trans <| (State.SameInstance.clearMessage u).trans <|
    State.SameInstance.respond _ _ _ _

/-- WRITE of a beat of at most one block (R134). -/
theorem issue_write (s : State) (m d : List Byte) (h : s.HoldsMessage m) (hd : d.length ≤ s.bs) :
    ∃ t, issue (Line.write d).command s = .next t ∧ s.SameInstance t ∧ t.HoldsMessage (m ++ d) := by
  obtain ⟨-, hbs⟩ := bs_bounds s h.size
  let u := s.sample (encode (.write d.length)) (blockOfBytes d)
  have hu : u.HoldsMessage m := holdsMessage_sample s m _ _ h
  have hdata : u.writeData d.length = d := take_blockBytes_blockOfBytes d (by omega)
  have hword : (Instr.write d.length).wellFormed = true := decide_eq_true (by omega)
  have hrun := (issue_encode s _ (blockOfBytes d) hword).trans (execWrite_accepted u d.length h.configured hd)
  rw [hdata] at hrun
  refine ⟨_, hrun, ?_, holdsMessage_respond _ _ _ _ _ (holdsMessage_appendDrain u m d hu hd)⟩
  exact (State.SameInstance.sample s _ _).trans <| (State.SameInstance.appendDrain u d).trans <|
    (State.SameInstance.countMessage _ _).trans (State.SameInstance.respond _ _ _ _)

/-- Beats of at most one block append to the message, however it is split (R139, R140). -/
theorem issueAll_writes (beats : List (List Byte)) (s : State) (m : List Byte) (h : s.HoldsMessage m)
    (hbeats : ∀ d ∈ beats, d.length ≤ s.bs) :
    ∃ t, issueAll ((beats.map Line.write).map Line.command) s = .next t ∧ s.SameInstance t ∧
      t.HoldsMessage (m ++ beats.flatten) := by
  induction beats generalizing s m with
  | nil => exact ⟨s, rfl, .refl s, by simpa using h⟩
  | cons d beats ih =>
    obtain ⟨hd, hrest⟩ := List.forall_mem_cons.mp hbeats
    obtain ⟨u, hu, hsame, hholds⟩ := issue_write s m d h hd
    obtain ⟨t, ht, hsame', hholds'⟩ := ih u (m ++ d) hholds (by rwa [hsame.bs])
    rw [List.append_assoc] at hholds'
    exact ⟨t, (issueAll_of_issue _ _ s u hu).trans ht, hsame.trans hsame', hholds'⟩

/-- FINALIZE answers the tag of the message (R135, R141). -/
theorem issue_finalize (s : State) (m : List Byte) (h : s.HoldsMessage m) :
    ∃ t, issue Line.finalize.command s = .next t ∧ t.rspWord = responseWord .ok 0 true ∧
      t.rspTag = blockOfBytes (s.instanceTag m) := by
  let u := s.sample (encode .finalize) 0
  have hu : u.HoldsMessage m := holdsMessage_sample s m _ _ h
  refine ⟨_, (issue_encode s .finalize 0 rfl).trans (execFinalize_configured u h.configured), ?_, ?_⟩
  · rw [State.respond_rspWord, hu.configured]
  · rw [State.respond_rspTag, tag_of_holdsMessage u m hu]
    rfl

/-- Beats and a FINALIZE on a core that has taken `m` (R139 to R141). -/
theorem issueAll_writes_finalize (beats : List (List Byte)) (s : State) (m : List Byte) (h : s.HoldsMessage m)
    (hbeats : ∀ d ∈ beats, d.length ≤ s.bs) :
    ∃ t, issueAll ((beats.map Line.write ++ [Line.finalize]).map Line.command) s = .next t ∧
      t.rspWord = responseWord .ok 0 true ∧ t.rspTag = blockOfBytes (s.instanceTag (m ++ beats.flatten)) := by
  obtain ⟨u, hu, hsame, hholds⟩ := issueAll_writes beats s m h hbeats
  obtain ⟨t, ht, hword, htag⟩ := issue_finalize u _ hholds
  refine ⟨t, ?_, hword, by rw [htag, hsame.instanceTag]⟩
  rw [List.map_append, issueAll_append _ _ s u hu]
  exact issueAll_of_issue _ [] u t ht

/-- Settles O53: RESET empties the message, the beats of WRITEMSG make it `m`, and none of them touches
the subkeys or the wrapper. -/
theorem macUsesTheInstanceSubkeys : Obligations.MacUsesTheInstanceSubkeys := by
  intro s m hi hc bs
  obtain ⟨hsize, -⟩ := hi.1 hc
  obtain ⟨hpos, -⟩ := bs_bounds s hsize
  obtain ⟨hflat, hbeats, -⟩ := writeMsgBeats bs m hpos
  obtain ⟨u, hu, hsame, hholds⟩ := issue_reset s hc hsize
  obtain ⟨t, ht, hword, htag⟩ := issueAll_writes_finalize (messageBeats bs m) u [] hholds fun d hd => by
    rw [hsame.bs]
    exact (hbeats d hd).2
  refine ⟨t, (issueAll_of_issue _ _ s u hu).trans ht, hword, ?_⟩
  rw [htag, List.nil_append, hflat, hsame.instanceTag]
  rfl

end Sys2Proof.Machine
end

section
/-! PROOFS. The subkey generator (spec/40_subkey_generator.md): INIT's two failures, who writes the subkeys, and DOUBLE as
arithmetic on integers. -/

namespace Sys2Proof.Machine

/-! ## INIT that fails -/

section
variable (s : State)

/-- An INIT that fails requests nothing (R107, R108). -/
theorem commandRequest_init_cipherError (he : s.smpErr = true) : commandRequest .init s = none := by
  simp [commandRequest, he]

theorem commandRequest_init_badSize (he : s.smpErr = false) (hb : s.sampledBlockSize = none) :
    commandRequest .init s = none := by
  simp [commandRequest, he, hb]

end

/-- Settles O12: the sampled size stands for no block size. -/
theorem initRejectsOtherBlockSizes : Obligations.InitRejectsOtherBlockSizes := by
  intro s he h8 h16
  have hb : s.sampledBlockSize = none := (toBlockSize_eq_none s.smpBs).mpr ⟨h8, h16⟩
  exact ⟨commandRequest_init_badSize s he hb, _, execInit_badSize s he hb, rfl⟩

/-- Settles O13: the error comes before the block size. -/
theorem initReportsCipherError : Obligations.InitReportsCipherError := by
  intro s he
  exact ⟨commandRequest_init_cipherError s he, _, execInit_cipherError s he, rfl⟩

/-! ## Who writes the subkeys -/

/-- A command that is no INIT, and an illegal word, leaves K1, K2 and BS_REG alone (R109). -/
theorem runCommand_keeps_subkeys (s t : State) (h : runCommand s = .next t) (hd : decode s.cmdWord ≠ .ok .init) :
    t.k1 = s.k1 ∧ t.k2 = s.k2 ∧ t.bsReg = s.bsReg := by
  cases runCommand_effect s t h with
  | initError hi _ _ => exact absurd hi hd
  | initBadSize hi _ _ _ => exact absurd hi hd
  | initDone _ hi _ _ _ => exact absurd hi hd
  | written len _ _ _ ht =>
    rw [ht, appendDrain_eq]
    exact ⟨rfl, rfl, rfl⟩
  | _ => subst t; exact ⟨rfl, rfl, rfl⟩

/-- Settles O16: of the edges without reset only a completing one writes the engine's registers, and of the commands only
INIT writes these. -/
theorem subkeysWrittenOnlyByInitOrReset : Obligations.SubkeysWrittenOnlyByInitOrReset := by
  intro s t h hchange
  cases step_effect s t h with
  | reset hr _ => exact .inl hr
  | accept _ _ _ ht =>
    obtain ⟨g, -, hacc⟩ := accept_eq s.atEdge s.nextEdge
    rw [hacc] at ht
    subst t
    exact absurd ⟨rfl, rfl, rfl⟩ hchange
  | complete _ hp _ _ _ ht =>
    obtain ⟨hrespond, -⟩ := runCommand_ends s.atEdge t ht
    refine .inr ⟨hp, hrespond, ?_⟩
    by_contra hd
    exact hchange (runCommand_keeps_subkeys s.atEdge t ht hd)
  | _ => subst t; exact absurd ⟨rfl, rfl, rfl⟩ hchange

/-! ## The integer of a byte sequence (R11) -/

theorem two_pow_cons_length (b : Byte) (l : List Byte) : 2 ^ (8 * (b :: l).length) = 2 ^ (8 * l.length) * 256 := by
  rw [List.length_cons, Nat.mul_succ, Nat.pow_add]

theorem foldl_bytesInt (l : List Byte) (a : Nat) :
    l.foldl (fun acc b => 256 * acc + b.toNat) a = 2 ^ (8 * l.length) * a + bytesInt l := by
  induction l generalizing a with
  | nil => simp [bytesInt]
  | cons b l ih =>
    rw [bytesInt, List.foldl_cons, List.foldl_cons, ih, ih, two_pow_cons_length]
    ring

/-- The first byte is the most significant one. -/
theorem bytesInt_cons (b : Byte) (l : List Byte) : bytesInt (b :: l) = 2 ^ (8 * l.length) * b.toNat + bytesInt l := by
  rw [bytesInt, List.foldl_cons, foldl_bytesInt, Nat.mul_zero, Nat.zero_add]

theorem bytesInt_lt (l : List Byte) : bytesInt l < 2 ^ (8 * l.length) := by
  induction l with
  | nil => simp [bytesInt]
  | cons b l ih =>
    rw [bytesInt_cons, two_pow_cons_length]
    calc 2 ^ (8 * l.length) * b.toNat + bytesInt l
        < 2 ^ (8 * l.length) * b.toNat + 2 ^ (8 * l.length) := by omega
      _ = 2 ^ (8 * l.length) * (b.toNat + 1) := by ring
      _ ≤ 2 ^ (8 * l.length) * 256 := Nat.mul_le_mul_left _ b.isLt

/-- The top bit of a sequence's integer is the top bit of its first byte. -/
theorem bytesInt_cons_div (b : Byte) (l : List Byte) :
    bytesInt (b :: l) / 2 ^ (8 * l.length + 7) = b.toNat / 128 := by
  rw [Nat.pow_add, ← Nat.div_div_eq_div_mul, bytesInt_cons, Nat.mul_add_div (by positivity),
    Nat.div_eq_of_lt (bytesInt_lt l), Nat.add_zero]

/-! ## DOUBLE on integers -/

theorem xor_low_bits (k a n m : Nat) (hn : n < 2 ^ k) (hm : m < 2 ^ k) :
    (2 ^ k * a + n) ^^^ m = 2 ^ k * a + (n ^^^ m) := by
  rw [← Nat.div_add_mod ((2 ^ k * a + n) ^^^ m) (2 ^ k), Nat.xor_div_two_pow, Nat.xor_mod_two_pow,
    Nat.mul_add_div (by positivity), Nat.mul_add_mod, Nat.div_eq_of_lt hn, Nat.div_eq_of_lt hm, Nat.mod_eq_of_lt hn,
    Nat.mod_eq_of_lt hm, Nat.add_zero, Nat.xor_zero]

/-- The last byte holds the low bits. -/
theorem bytesInt_xorLast (m : Byte) (l : List Byte) (h : l ≠ []) : bytesInt (xorLast m l) = bytesInt l ^^^ m.toNat := by
  induction l using xorLast.induct with
  | case1 => exact absurd rfl h
  | case2 b => simp [xorLast, bytesInt]
  | case3 b c rest ih =>
    have hm : m.toNat < 2 ^ (8 * (c :: rest).length) :=
      m.isLt.trans_le (Nat.pow_le_pow_right (by omega) (by simp))
    rw [xorLast, bytesInt_cons, xorLast_length, ih (by simp), bytesInt_cons b (c :: rest),
      xor_low_bits _ _ _ _ (bytesInt_lt _) hm]

/-- A byte shifted left, with the next byte's top bit moved in (R101). -/
theorem toNat_shiftedByte (b c : Byte) : (b <<< 1 ||| c >>> 7).toNat = 2 * b.toNat % 256 + c.toNat / 128 := by
  have hc : c.toNat / 128 < 2 ^ 1 := by omega
  have hor := Nat.two_pow_add_eq_or_of_lt hc (b.toNat % 128)
  have hb : b.toNat <<< 1 % 2 ^ 8 = 2 ^ 1 * (b.toNat % 128) := by omega
  rw [BitVec.toNat_or, BitVec.toNat_shiftLeft, BitVec.toNat_ushiftRight, hb, Nat.shiftRight_eq_div_pow, ← hor]
  omega

/-- SHIFT1 doubles modulo 2^n (R101). -/
theorem bytesInt_shift1 (l : List Byte) : bytesInt (shift1 l) = 2 * bytesInt l % 2 ^ (8 * l.length) := by
  induction l using shift1.induct with
  | case1 => simp [shift1, bytesInt]
  | case2 b => simp [shift1, bytesInt]; omega
  | case3 b c rest ih =>
    have hcarry : 2 * bytesInt (c :: rest) / 2 ^ (8 * (c :: rest).length) = c.toNat / 128 := by
      rw [← bytesInt_cons_div c rest, show 8 * (c :: rest).length = 8 * rest.length + 7 + 1 by simp; omega,
        Nat.pow_succ', Nat.mul_div_mul_left _ _ (by omega)]
    have hsum : 2 * bytesInt (b :: c :: rest) =
        2 ^ (8 * (c :: rest).length) * (2 * b.toNat) + 2 * bytesInt (c :: rest) := by
      rw [bytesInt_cons]; ring
    rw [shift1, bytesInt_cons, shift1_length, ih, toNat_shiftedByte, hsum, two_pow_cons_length b, Nat.mod_mul,
      Nat.mul_add_mod, Nat.mul_add_div (by positivity), hcarry,
      show (2 * b.toNat + c.toNat / 128) % 256 = 2 * b.toNat % 256 + c.toNat / 128 by omega]
    omega

/-- `MSB(v)` is the top bit of `int(v)` (R11, R102). -/
theorem toNat_msb (l : List Byte) (h : l ≠ []) : (msb l).toNat = bytesInt l / 2 ^ (8 * l.length - 1) := by
  obtain ⟨b, l, rfl⟩ := List.exists_cons_of_ne_nil h
  rw [show 8 * (b :: l).length - 1 = 8 * l.length + 7 by simp; omega, bytesInt_cons_div]
  simp [msb, Nat.shiftRight_eq_div_pow]
  omega

/-- The selection of a byte or 0 is a product with the selecting bit (R13, R103). -/
theorem toNat_select8_zero (c : BitVec 1) (a : Byte) : (select8 c a 0).toNat = c.toNat * a.toNat := by
  rw [select8_eq]
  split
  · simp [*]
  · rename_i hc
    have hzero : c = 0 := by bv_omega
    simp [hzero]

/-- Settles O15: the shift doubles modulo 2^n, and the last byte takes `MSB(v) * Rb`. -/
theorem doubleOnIntegers : Obligations.DoubleOnIntegers := by
  intro b v hv
  have hpos : 0 < v.length := by rcases blockLen_cases b with h | h <;> omega
  have hne : v ≠ [] := List.ne_nil_of_length_pos hpos
  have hshift : shift1 v ≠ [] := List.ne_nil_of_length_pos (by rwa [shift1_length])
  refine ⟨by rw [double_length, hv], ?_⟩
  rw [double, bytesInt_xorLast _ _ hshift, bytesInt_shift1, toNat_select8_zero, toNat_msb v hne, hv]
  cases b <;> rfl

end Sys2Proof.Machine
end

section
/-! PROOFS. What the public part of a state determines (R104, R224): the operations of the core act on the public part of a
state alone, so two states that agree there go on agreeing, along the commands, the clock edge and the output pins. -/

namespace Sys2Proof.Machine

/-! ## The public part under the operations -/

section
variable (s : State)

@[simp] theorem publicView_respond (st : Status) (c : Byte) (tag : Block) :
    (s.respond st c tag).publicView = s.publicView.respond st c 0 := rfl

@[simp] theorem publicView_raise (st : Status) (c : Byte) : (s.raise st c).publicView = s.publicView.raise st c := rfl

@[simp] theorem publicView_zeroize : s.zeroize.publicView = s.publicView.zeroize := rfl

@[simp] theorem publicView_dropSamples : s.dropSamples.publicView = s.publicView.dropSamples := rfl

@[simp] theorem publicView_clearMessage : s.clearMessage.publicView = s.publicView.clearMessage := rfl

/-- The subkeys that INIT derives are no part of the public state (R224). -/
@[simp] theorem publicView_configure (b : BlockSize) (u v : List Byte) :
    (s.configure b u v).publicView = s.publicView.configure b [] [] := rfl

@[simp] theorem publicView_countMessage (k : Nat) : (s.countMessage k).publicView = s.publicView.countMessage k := rfl

@[simp] theorem publicView_hardReset : s.hardReset.publicView = s.publicView.hardReset := rfl

@[simp] theorem publicView_setPhase (p : Phase) : (s.setPhase p).publicView = s.publicView.setPhase p := rfl

@[simp] theorem publicView_setEnc (g : EncStage) : (s.setEnc g).publicView = s.publicView.setEnc g := rfl

@[simp] theorem publicView_sample (w : Word32) (d : Block) : (s.sample w d).publicView = s.publicView.sample w 0 := rfl

/-- APPEND_DRAIN: of the registers it writes PLEN alone is public. -/
theorem publicView_appendDrain (d : List Byte) :
    (s.appendDrain d).publicView = { s.publicView with plen := (s.appendDrain d).plen } := by
  rw [appendDrain_eq]
  rfl

/-- PLEN after APPEND_DRAIN depends on lengths alone (R131). -/
theorem appendDrain_plen_eq (d : List Byte) :
    (s.appendDrain d).plen = BitVec.ofNat 5
      (if s.bs < (s.buffered d).length then (s.buffered d).length - s.bs else (s.buffered d).length) := by
  split
  · rename_i hlong
    rw [appendDrain_drain s d hlong, State.setPending_plen, List.length_drop]
  · rename_i hshort
    rw [appendDrain_hold s d (Nat.not_lt.mp hshort), State.setPending_plen]

theorem publicView_nextEdge : s.nextEdge.publicView = s.publicView.nextEdge :=
  List.headD_map.symm

theorem publicView_atEdge : s.atEdge.publicView = s.publicView.atEdge := by
  have hwrapper : (s.nextEdge.rewire.getD s.wrapper).publicView =
      s.publicView.nextEdge.rewire.getD s.wrapper.publicView := by
    rw [← publicView_nextEdge]
    exact (Option.getD_map ..).symm
  have hedges : s.edges.tail.map Edge.publicView = (s.edges.map Edge.publicView).tail := List.map_tail
  show { s.publicView with
    wrapper := (s.nextEdge.rewire.getD s.wrapper).publicView, edges := s.edges.tail.map Edge.publicView } = _
  rw [hwrapper, hedges]
  rfl

/-- A WRITE makes a cipher request where it is accepted and brings more than one block together (R58, R132). -/
theorem commandRequest_write_isSome (len : Nat) :
    (commandRequest (.write len) s).isSome = true ↔
      s.configured = true ∧ len ≤ s.bs ∧ s.bs < min s.plen.toNat 16 + min len 16 := by
  simp only [commandRequest, buffered_length, writeData_length]
  split
  · rename_i hrefused
    simp only [Option.isSome_none, Bool.false_eq_true, false_iff]
    rintro ⟨hc, hl, -⟩
    rcases hrefused with hn | hlong
    · simp [hc] at hn
    · omega
  · rename_i haccepted
    obtain ⟨hc, hl⟩ := not_or.mp haccepted
    split <;> simp_all

/-- Whether a command makes a cipher request depends on no message byte, subkey or chaining value (R58, R104). -/
theorem commandRequest_publicView (i : Instr) :
    (commandRequest i s.publicView).isSome = (commandRequest i s).isSome := by
  cases i with
  | init => rfl
  | write len =>
    rw [Bool.eq_iff_iff, commandRequest_write_isSome, commandRequest_write_isSome]
    rfl
  | finalize => cases hc : s.configured <;> simp [commandRequest, hc, State.publicView]
  | reset => rfl
  | info => rfl

theorem request_publicView : s.publicView.request.isSome = s.request.isSome := by
  cases hd : decode s.cmdWord with
  | error e => rw [request_illegal s e hd, request_illegal s.publicView e hd]
  | ok i =>
    rw [request_decoded s i hd, request_decoded s.publicView i hd, Option.isSome_map, Option.isSome_map,
      commandRequest_publicView]

/-- The accepting edge: the message bytes are sampled, and nothing public depends on them (R52). -/
theorem publicView_accept (e : Edge) : (s.accept e).publicView = s.publicView.accept e.publicView := by
  have hq : (s.publicView.sample e.cmdWord 0).request.isSome = (s.sample e.cmdWord e.cmdData).request.isSome := by
    rw [← publicView_sample s e.cmdWord e.cmdData, request_publicView]
  show _ = (if e.coreDone ∧ (s.publicView.sample e.cmdWord 0).request.isSome then _ else _)
  rw [hq, State.accept]
  split <;> rfl

end

/-- With no cipher request left to make, the command completes once the core's work is done (R52, R56). -/
theorem busyEdge_last (s : State) (e : Edge) (he : s.enc = .done ∨ (s.enc = .start ∧ s.request = none)) :
    s.busyEdge e = if e.coreDone then runCommand s else .next s := by
  rcases he with he | ⟨he, hq⟩
  · simp only [State.busyEdge, he]
  · simp only [State.busyEdge, he, hq]

/-! ## Two states with the same public part -/

/-- Both outcomes are next states, with the same public part. -/
def NextAlike (o o' : Host.Outcome State Fault Refusal) : Prop :=
  ∃ t t', o = .next t ∧ o' = .next t' ∧ t.publicView = t'.publicView

theorem nextAlike_next {t t' : State} (h : t.publicView = t'.publicView) : NextAlike (.next t) (.next t') :=
  ⟨t, t', rfl, rfl, h⟩

section
variable (s s' : State) (h : s.publicView = s'.publicView)
include h

theorem raise_alike (st : Status) (c : Byte) : NextAlike (.next (s.raise st c)) (.next (s'.raise st c)) :=
  nextAlike_next (by simp [h])

theorem execInit_alike : NextAlike (execInit s) (execInit s') := by
  have herr : s.smpErr = s'.smpErr := (congrArg State.smpErr h :)
  have hcode : s.smpErrCode = s'.smpErrCode := (congrArg State.smpErrCode h :)
  have hsize : s.sampledBlockSize = s'.sampledBlockSize := (congrArg State.sampledBlockSize h :)
  have hzero : s.dropSamples.zeroize.publicView = s'.dropSamples.zeroize.publicView := by
    simp [h]
  cases he : s.smpErr with
  | true =>
    rw [execInit_cipherError s he, execInit_cipherError s' (herr ▸ he), hcode]
    exact raise_alike _ _ hzero _ _
  | false =>
    cases hb : s.sampledBlockSize with
    | none =>
      rw [execInit_badSize s he hb, execInit_badSize s' (herr ▸ he) (hsize ▸ hb)]
      exact raise_alike _ _ hzero _ _
    | some b =>
      rw [execInit_done s b he hb, execInit_done s' b (herr ▸ he) (hsize ▸ hb)]
      exact nextAlike_next (by simp [h])

theorem execWrite_alike (len : Nat) : NextAlike (execWrite len s) (execWrite len s') := by
  have hconf : s.configured = s'.configured := (congrArg State.configured h :)
  have hbs : s.bs = s'.bs := (congrArg State.bs h :)
  have hplen : s.plen = s'.plen := (congrArg State.plen h :)
  cases hc : s.configured with
  | false =>
    rw [execWrite_notConfigured s len hc, execWrite_notConfigured s' len (hconf ▸ hc)]
    exact raise_alike s s' h _ _
  | true =>
    by_cases hl : s.bs < len
    · rw [execWrite_tooLong s len hc hl, execWrite_tooLong s' len (hconf ▸ hc) (hbs ▸ hl)]
      exact raise_alike s s' h _ _
    · rw [execWrite_accepted s len hc (by omega), execWrite_accepted s' len (hconf ▸ hc) (by omega)]
      exact nextAlike_next (by simp [publicView_appendDrain, appendDrain_plen_eq, hbs, hplen, h])

theorem execFinalize_alike : NextAlike (execFinalize s) (execFinalize s') := by
  have hconf : s.configured = s'.configured := (congrArg State.configured h :)
  cases hc : s.configured with
  | false =>
    rw [execFinalize_notConfigured s hc, execFinalize_notConfigured s' (hconf ▸ hc)]
    exact raise_alike s s' h _ _
  | true =>
    rw [execFinalize_configured s hc, execFinalize_configured s' (hconf ▸ hc)]
    exact nextAlike_next (by simp [h])

theorem execReset_alike : NextAlike (execReset s) (execReset s') := by
  have hconf : s.configured = s'.configured := (congrArg State.configured h :)
  cases hc : s.configured with
  | false =>
    rw [execReset_notConfigured s hc, execReset_notConfigured s' (hconf ▸ hc)]
    exact raise_alike s s' h _ _
  | true =>
    rw [execReset_configured s hc, execReset_configured s' (hconf ▸ hc)]
    exact nextAlike_next (by simp [h])

theorem execInfo_alike : NextAlike (execInfo s) (execInfo s') := by
  have hsize : s.bsReg = s'.bsReg := (congrArg State.bsReg h :)
  exact nextAlike_next (by simp [h, hsize])

/-- The sampled command's status, COUNT and public writes depend on the public part alone (R104, R224). -/
theorem runCommand_alike : NextAlike (runCommand s) (runCommand s') := by
  have hword : s.cmdWord = s'.cmdWord := (congrArg State.cmdWord h :)
  cases hd : decode s.cmdWord with
  | error e =>
    rw [runCommand_illegal s e hd, runCommand_illegal s' e (hword ▸ hd)]
    exact raise_alike s s' h _ _
  | ok i =>
    rw [runCommand_decoded s i hd, runCommand_decoded s' i (hword ▸ hd)]
    cases i with
    | init => exact execInit_alike s s' h
    | write len => exact execWrite_alike s s' h len
    | finalize => exact execFinalize_alike s s' h
    | reset => exact execReset_alike s s' h
    | info => exact execInfo_alike s s' h

theorem request_alike : s.request.isSome = s'.request.isSome := by
  rw [← request_publicView, h, request_publicView]

theorem setEnc_alike (g : EncStage) : NextAlike (.next (s.setEnc g)) (.next (s'.setEnc g)) :=
  nextAlike_next (by simp [h])

/-- The stage of the cipher request moves alike (R56), and the command completes at the same edge (R224). -/
theorem busyEdge_alike (e e' : Edge) (he : e.publicView = e'.publicView) :
    NextAlike (s.busyEdge e) (s'.busyEdge e') := by
  have henc : s.enc = s'.enc := (congrArg State.enc h :)
  have hdone : e.coreDone = e'.coreDone := (congrArg Edge.coreDone he :)
  have hlast (hl : s.enc = .done ∨ (s.enc = .start ∧ s.request = none))
      (hl' : s'.enc = .done ∨ (s'.enc = .start ∧ s'.request = none)) :
      NextAlike (s.busyEdge e) (s'.busyEdge e') := by
    rw [busyEdge_last s e hl, busyEdge_last s' e' hl', hdone]
    split
    · exact runCommand_alike s s' h
    · exact nextAlike_next h
  cases hg : s.enc with
  | start =>
    have hrequest := request_alike s s' h
    cases hq : s.request with
    | none => exact hlast (.inr ⟨hg, hq⟩) (.inr ⟨henc ▸ hg, by simpa [hq] using hrequest⟩)
    | some b =>
      obtain ⟨b', hq'⟩ : ∃ b', s'.request = some b' := Option.isSome_iff_exists.mp (by simp [← hrequest, hq])
      rw [busyEdge_start s e b hg hq, busyEdge_start s' e' b' (henc ▸ hg) hq', hdone]
      exact setEnc_alike s s' h _
  | request =>
    have hready : e.encReqReady = e'.encReqReady := (congrArg Edge.encReqReady he :)
    rw [busyEdge_request s e hg, busyEdge_request s' e' (henc ▸ hg), hready]
    exact setEnc_alike s s' h _
  | await =>
    have hvalid : e.encRspValid = e'.encRspValid := (congrArg Edge.encRspValid he :)
    rw [busyEdge_await s e hg, busyEdge_await s' e' (henc ▸ hg), hvalid]
    exact setEnc_alike s s' h _
  | done => exact hlast (.inl hg) (.inl (henc ▸ hg))

theorem nextEdge_alike : s.nextEdge.publicView = s'.nextEdge.publicView := by
  rw [publicView_nextEdge, publicView_nextEdge, h]

theorem atEdge_alike : s.atEdge.publicView = s'.atEdge.publicView := by
  rw [publicView_atEdge, publicView_atEdge, h]

/-- At an edge that is neither reset nor a refused change of the wrapper, PHASE says what both states do (R29). -/
theorem step_run_alike (hr : s.nextEdge.rstN = true) (hw : s.illegalRewire s.nextEdge.rewire = false)
    (hw' : s'.illegalRewire s'.nextEdge.rewire = false) : NextAlike (step s) (step s') := by
  have hedge := nextEdge_alike s s' h
  have hat := atEdge_alike s s' h
  have hphase : s.phase = s'.phase := (congrArg State.phase h :)
  have hr' : s'.nextEdge.rstN = true := (congrArg Edge.rstN hedge).symm.trans hr
  rw [step_run s hr hw, step_run s' hr' hw', ← hphase]
  cases s.phase with
  | idle =>
    have hvalid : s.nextEdge.cmdValid = s'.nextEdge.cmdValid := (congrArg Edge.cmdValid hedge :)
    simp only [hvalid]
    refine nextAlike_next ?_
    split
    · rw [publicView_accept, publicView_accept, hat, hedge]
    · exact hat
  | busy => exact busyEdge_alike _ _ hat _ _ hedge
  | respond =>
    have hready : s.nextEdge.rspReady = s'.nextEdge.rspReady := (congrArg Edge.rspReady hedge :)
    simp only [hready]
    refine nextAlike_next ?_
    split
    · simp [hat]
    · exact hat

/-- The handshake outputs and the response word show nothing but the public part (R224). -/
theorem outputs_alike :
    s.outputs.cmdReady = s'.outputs.cmdReady ∧ s.outputs.rspValid = s'.outputs.rspValid ∧
      s.outputs.rspWord = s'.outputs.rspWord ∧ s.outputs.encReqValid = s'.outputs.encReqValid ∧
      s.outputs.encRspReady = s'.outputs.encRspReady := by
  have hrst : s.nextEdge.rstN = s'.nextEdge.rstN := (congrArg Edge.rstN (nextEdge_alike s s' h) :)
  have hphase : s.phase = s'.phase := (congrArg State.phase h :)
  have henc : s.enc = s'.enc := (congrArg State.enc h :)
  have hword : s.rspWord = s'.rspWord := (congrArg State.rspWord h :)
  simp [State.outputs, hrst, hphase, henc, hword]

end

/-- Settles O55: reset and a refused change of the wrapper take both states alike, and so does every other edge. -/
theorem timingIndependentOfData : Obligations.TimingIndependentOfData := by
  intro s s' h hrewire
  refine ⟨outputs_alike s s' h, ?_⟩
  have hrst : s.nextEdge.rstN = s'.nextEdge.rstN := (congrArg Edge.rstN (nextEdge_alike s s' h) :)
  cases hr : s.nextEdge.rstN with
  | false =>
    rw [step_reset s hr, step_reset s' (hrst ▸ hr)]
    exact .inl (nextAlike_next (by simp [atEdge_alike s s' h]))
  | true =>
    cases hw : s.illegalRewire s.nextEdge.rewire with
    | false => exact .inl (step_run_alike s s' h hr hw (hrewire ▸ hw))
    | true => exact .inr ⟨step_refused s hr hw, step_refused s' (hrst ▸ hr) (hrewire ▸ hw)⟩

end Sys2Proof.Machine
end

section
/-! PROOFS. The MAC engine (spec/41_mac_engine.md): what WRITE, FINALIZE, RESET and INFO do in one state, and the tag of a
message after INIT (R141) and after RESET (R142). -/

namespace Sys2Proof.Machine

/-! ## WRITE, RESET and INFO in one state -/

/-- Settles O18: APPEND_DRAIN holds, and its PLEN counts at most 16 bytes. -/
theorem writeHoldsUpToOneBlock : Obligations.WriteHoldsUpToOneBlock := by
  intro s len hi hc hfit
  obtain ⟨hsize, hp, -⟩ := hi.1 hc
  obtain ⟨-, hbs⟩ := bs_bounds s hsize
  have hl : len ≤ s.bs := (Nat.le_add_left len _).trans hfit
  have hdata : (s.writeData len).length = len := by
    rw [writeData_length]
    exact Nat.min_eq_left (hl.trans hbs)
  have hplen := appendDrain_plen s (s.writeData len) hbs hp (by rwa [hdata])
  rw [hdata, if_pos (show s.plen.toNat + len ≤ s.bs from hfit)] at hplen
  refine ⟨(s.appendDrain (s.writeData len)).plen, hplen, ?_⟩
  show execWrite len s = _
  have hhold := appendDrain_hold s (s.writeData len) (by
    rw [buffered_length_of_le s _ hbs hp, hdata]
    exact hfit)
  rw [execWrite_accepted s len hc hl, hhold, ← hc]
  rfl

/-- Settles O25: RESET clears the message's registers and answers. -/
theorem resetEmptiesTheMessage : Obligations.ResetEmptiesTheMessage := by
  intro s hc
  show execReset s = _
  rw [execReset_configured s hc, ← hc]
  rfl

/-- Settles O26: INFO only answers, and reads nothing but BS_REG and CONFIGURED. -/
theorem infoReportsTheBlockSize : Obligations.InfoReportsTheBlockSize := fun _ => rfl

/-! ## FINALIZE -/

section
variable (s : State)

/-- A complete last block goes with K1 (R133). -/
theorem padSelect_complete (h : s.plen.toNat = s.bs) :
    s.padSelect = xorBytes s.pending ((blockBytes s.k1).take s.bs) := by
  rw [State.padSelect, if_pos h, State.pending, h]

/-- Any other last block is padded and goes with K2 (R133). -/
theorem padSelect_incomplete (h : s.plen.toNat < s.bs) :
    s.padSelect = xorBytes s.padded ((blockBytes s.k2).take s.bs) := by
  rw [State.padSelect, if_neg h.ne]

end

/-- Settles O23: PAD_SELECT on both sides of PLEN = BS_REG. -/
theorem finalizeProducesTheTag : Obligations.FinalizeProducesTheTag := by
  intro s _ hc bs pending x answer
  have hrun : exec .finalize s =
      .next (s.answered (responseWord .ok 0 true) (blockOfBytes (answer (xorBytes s.padSelect x)))) := by
    rw [← hc]
    exact execFinalize_configured s hc
  constructor
  · intro hfull
    rw [hrun, padSelect_complete s hfull]
    rfl
  · intro hpart
    rw [hrun, padSelect_incomplete s hpart]
    rfl

/-- The word is no INIT, WRITE or RESET; it may be illegal. -/
def onlyAnswers (w : Word32) : Prop :=
  decode w ≠ .ok .init ∧ decode w ≠ .ok .reset ∧ ∀ len, decode w ≠ .ok (.write len)

/-- The state with the sampled command, the response registers and the control state of `u`: the registers and the wrapper
that FINALIZE reads stay. -/
def State.withPortOf (s u : State) : State :=
  { s with
    phase := u.phase, enc := u.enc, rspWord := u.rspWord, rspTag := u.rspTag, cmdWord := u.cmdWord, cmdData := u.cmdData }

section
variable (s : State)

/-- FINALIZE reads neither the sampled command nor the response registers nor the control state, and writes only its
response (R138). -/
theorem execFinalize_withPortOf (u t : State) (ht : execFinalize s = .next t) :
    execFinalize (s.withPortOf u) = .next ((s.withPortOf u).answered t.rspWord t.rspTag) := by
  cases hc : s.configured with
  | false =>
    rw [execFinalize_notConfigured s hc] at ht
    cases ht
    exact execFinalize_notConfigured (s.withPortOf u) hc
  | true =>
    rw [execFinalize_configured s hc] at ht
    cases ht
    exact execFinalize_configured (s.withPortOf u) hc

/-- FINALIZE writes no register of the engine (R138). -/
theorem execFinalize_answers (t : State) (ht : execFinalize s = .next t) : t = s.answered t.rspWord t.rspTag :=
  Host.Outcome.next.inj (ht.symm.trans (execFinalize_withPortOf s s t ht))

/-- INFO, FINALIZE and an illegal word write nothing but the response port (R137, R138, R182). -/
theorem runCommand_answers (t : State) (hd : onlyAnswers s.cmdWord) (h : runCommand s = .next t) :
    t = s.answered t.rspWord t.rspTag := by
  obtain ⟨hinit, hreset, hwrite⟩ := hd
  cases runCommand_effect s t h with
  | initError hi _ _ => exact absurd hi hinit
  | initBadSize hi _ _ _ => exact absurd hi hinit
  | initDone _ hi _ _ _ => exact absurd hi hinit
  | written len hw _ _ _ => exact absurd hw (hwrite len)
  | cleared hr _ _ => exact absurd hr hreset
  | _ => subst t; rfl

theorem sample_eq_withPortOf (w : Word32) (d : Block) (hw : decode w ≠ .ok .init) :
    s.sample w d = s.withPortOf (s.sample w d) := by
  simp [State.sample, State.withPortOf, wordReadsWrapper_eq_false w hw]

/-- Any number of such commands leaves alone what FINALIZE reads (R138). -/
theorem issueAll_eq_withPortOf (cs : List (Word32 × Block)) (u : State) (hcs : ∀ c ∈ cs, onlyAnswers c.1)
    (h : issueAll cs s = .next u) : u = s.withPortOf u := by
  induction cs generalizing s with
  | nil => cases h; rfl
  | cons c cs ih =>
    obtain ⟨hc, hcs⟩ := List.forall_mem_cons.mp hcs
    obtain ⟨t, ht, -⟩ := runCommand_next (s.sample c.1 c.2)
    rw [issueAll_of_issue c cs s t ht] at h
    have hu := ih t hcs h
    rw [runCommand_answers (s.sample c.1 c.2) t hc ht, sample_eq_withPortOf s c.1 c.2 hc.1] at hu
    exact hu

end

/-- Settles O24: the commands in between leave what FINALIZE reads alone. -/
theorem finalizeMayBeRepeated : Obligations.FinalizeMayBeRepeated := by
  intro cs s t u v hcs ht hu hv
  have hanswer := execFinalize_answers s t ht
  have hport : u = s.withPortOf u := by
    have h := issueAll_eq_withPortOf t cs u hcs hu
    rwa [hanswer] at h
  have hagain := execFinalize_withPortOf s u t ht
  rw [← hport] at hagain
  cases hagain.symm.trans hv
  exact ⟨hanswer, rfl, rfl⟩

/-! ## The tag of a message after INIT and after RESET -/

/-- All but the processed blocks of a message are pending: PLEN as R139 gives it. -/
theorem messageRest_length_eq_pendingLength (bs : Nat) (m : List Byte) (hbs : 0 < bs) :
    (messageRest bs m).length = pendingLength bs m.length := by
  have hlen := messageRest_length bs m hbs
  have hdiv := Nat.div_add_mod' (m.length - 1) bs
  rw [processedBlocks] at hlen
  unfold pendingLength
  split <;> omega

/-- The core that INIT configures holds the empty message (R106). -/
theorem holdsMessage_configure (s : State) (b : BlockSize) (u v : List Byte) : (s.configure b u v).HoldsMessage [] :=
  holdsMessage_clearMessage (s.configure b u v) rfl (by cases b <;> simp [blockLen])

/-- `t` is a core freshly configured for block size `b` under the cipher of `s`: INIT has just ended (R106). -/
structure State.FreshInstance (s : State) (b : BlockSize) (t : State) : Prop where
  empty   : t.HoldsMessage []
  bs      : t.bs = blockLen b
  cipherE : t.cipherE = s.cipherE
  k1      : t.k1 = blockOfBytes (s.derive b).1
  k2      : t.k2 = blockOfBytes (s.derive b).2

/-- INIT with a sound wrapper (R106). -/
theorem issue_init (s : State) (b : BlockSize) (he : s.wrapper.cipherErr = false)
    (hb : s.wrapper.cipherBs = BitVec.ofNat 8 (blockLen b)) :
    ∃ t, issue Line.init.command s = .next t ∧ s.FreshInstance b t := by
  let u := s.sample (encode .init) 0
  have hreads : wordReadsWrapper (encode .init) = true := (wordReadsWrapper_iff _).mpr (decodeOfEncode .init rfl)
  have herr : u.smpErr = false := by simp [u, hreads, he]
  have hsize : u.sampledBlockSize = some b := sampledBlockSize_of_blockLen u b (by simp [u, hreads, hb])
  refine ⟨_, (issue_encode s .init 0 rfl).trans (execInit_done u b herr hsize), ?_⟩
  exact ⟨holdsMessage_respond _ _ _ _ _ (holdsMessage_configure u.dropSamples b _ _),
    configure_bs u.dropSamples b (u.derive b).1 (u.derive b).2, rfl, rfl, rfl⟩

/-- The tags of a freshly configured core are CMACs (R105, R141). -/
theorem instanceTag_of_fresh (s t : State) (b : BlockSize) (m : List Byte) (h : s.FreshInstance b t) :
    t.instanceTag m = cmac (s.cipherE (blockLen b)) b m := by
  obtain ⟨hk1, hk2⟩ := derive_length s b
  have hbs : blockLen b ≤ 16 := by rcases blockLen_cases b with h | h <;> omega
  have hread1 := take_blockBytes_blockOfBytes (s.derive b).1 (by omega)
  have hread2 := take_blockBytes_blockOfBytes (s.derive b).2 (by omega)
  rw [hk1] at hread1
  rw [hk2] at hread2
  rw [State.instanceTag, h.bs, h.cipherE, h.k1, h.k2, hread1, hread2]
  rfl

/-- Settles O50: the beats after INIT make the engine hold their concatenation. -/
theorem chainAndPendingFollowTheMessage : Obligations.ChainAndPendingFollowTheMessage := by
  intro s b beats he hb hbeats m bs
  obtain ⟨u, hu, hfresh⟩ := issue_init s b he hb
  obtain ⟨t, ht, hsame, hholds⟩ := issueAll_writes beats u [] hfresh.empty (by rwa [hfresh.bs])
  have hbs : t.bs = bs := hsame.bs.trans hfresh.bs
  obtain ⟨hpos, -⟩ := bs_bounds t hholds.size
  obtain ⟨hc, -, hmsg, hx, hpb, hplen⟩ := hholds
  rw [hsame.cipherE, hfresh.cipherE, hbs] at hx
  rw [hbs] at hpb hplen hpos
  refine ⟨t, (issueAll_of_issue _ _ s u hu).trans ht, hc, hmsg, ?_, hx, hpb, hplen.symm⟩
  exact hplen.trans (messageRest_length_eq_pendingLength bs m hpos)

/-- Settles O51: the tag is the one a freshly configured core gives the concatenated beats. -/
theorem tagIsTheCmacOfTheMessage : Obligations.TagIsTheCmacOfTheMessage := by
  intro s b beats he hb hbeats
  obtain ⟨u, hu, hfresh⟩ := issue_init s b he hb
  obtain ⟨t, ht, hword, htag⟩ := issueAll_writes_finalize beats u [] hfresh.empty (by rwa [hfresh.bs])
  rw [instanceTag_of_fresh s u b _ hfresh] at htag
  exact ⟨t, (issueAll_of_issue _ _ s u hu).trans ht, hword, htag⟩

/-- Settles O52: RESET leaves what INIT configured, with an empty message. -/
theorem resetRoundTrip : Obligations.ResetRoundTrip := by
  intro s b m1 m2 he hb hbeats
  obtain ⟨i, hi, hfresh⟩ := issue_init s b he hb
  rw [← hfresh.bs] at hbeats
  obtain ⟨h1, h2⟩ := List.forall_mem_append.mp hbeats
  obtain ⟨u, hu, huword, hutag⟩ := issueAll_writes_finalize m2 i [] hfresh.empty h2
  obtain ⟨w, hw, hsame, hholds⟩ := issueAll_writes m1 i [] hfresh.empty h1
  obtain ⟨r, hr, hsame', hempty⟩ := issue_reset w hholds.configured hholds.size
  have hinst := hsame.trans hsame'
  obtain ⟨t, ht, htword, httag⟩ := issueAll_writes_finalize m2 r [] hempty (by rwa [hinst.bs])
  refine ⟨t, u, ?_, (issueAll_of_issue _ _ s i hi).trans hu, ?_, htword.trans huword.symm, htword⟩
  · rw [List.map_cons, issueAll_of_issue _ _ s i hi, List.map_append, issueAll_append _ _ i w hw]
    exact (issueAll_of_issue _ _ w r hr).trans ht
  · rw [httag, hutag, hinst.instanceTag]

end Sys2Proof.Machine
end

section
/-! PROOFS. Errors (spec/60_exceptions.md): the states and words that raise each status, which of several causes is reported
(R188), and what each error leaves (R187). -/

namespace Sys2Proof.Machine

/-! ## The errors that change the response port alone (R182 to R184) -/

section
variable (s : State)

/-- `raise` writes nothing but the response port (R180). -/
theorem raise_eq_answered (st : Status) (c : Byte) :
    s.raise st c = s.answered (responseWord st c s.configured) 0 := rfl

/-- The commands that need an instance refuse to run without one (R183). -/
theorem exec_notConfigured (i : Instr) (hc : s.configured = false)
    (hi : (∃ len, i = .write len) ∨ i = .finalize ∨ i = .reset) : exec i s = .next (s.raise .notConfigured 0) := by
  rcases hi with ⟨len, rfl⟩ | rfl | rfl
  · exact execWrite_notConfigured s len hc
  · exact execFinalize_notConfigured s hc
  · exact execReset_notConfigured s hc

end

/-- Settles O8: a word on R86's list does not decode, and what does not decode only raises. -/
theorem illegalWordAnswersIllegalCommand : Obligations.IllegalWordAnswersIllegalCommand := by
  intro s hw
  obtain ⟨e, he⟩ := decode_illegalWord s.cmdWord hw
  rw [runCommand_illegal s e he, raise_eq_answered]

/-- Settles O20: WRITE checks the length before it appends. -/
theorem longWriteAnswersIllegalLength : Obligations.LongWriteAnswersIllegalLength := by
  intro s len hc hl
  show execWrite len s = _
  rw [execWrite_tooLong s len hc hl, raise_eq_answered, hc]

/-- Settles O21: the three commands raise the same error. -/
theorem noInstanceAnswersNotConfigured : Obligations.NoInstanceAnswersNotConfigured := by
  intro s i hc hi
  rw [exec_notConfigured s i hc hi, raise_eq_answered, hc]

/-! ## The status of each way a command can end -/

section
variable (s : State)

theorem statusField_respond (st : Status) (c : Byte) (tag : Block) :
    statusField (s.respond st c tag).rspWord = st.code :=
  statusField_responseWord st c s.configured

theorem statusField_raise (st : Status) (c : Byte) : statusField (s.raise st c).rspWord = st.code :=
  statusField_respond s st c 0

theorem sampledBlockSize_eq_none : s.sampledBlockSize = none ↔ s.smpBs ≠ 8 ∧ s.smpBs ≠ 16 :=
  toBlockSize_eq_none s.smpBs

end

/-- Settles O29: each way a command can end comes with the causes that were tested before it, absent. -/
theorem statusPriority : Obligations.StatusPriority := by
  intro s t h
  cases runCommand_effect s t h with
  | illegal e hd ht => rw [ht, statusField_raise, hd]; rfl
  | initError hd he ht => rw [ht, statusField_raise, hd]; exact (if_pos he).symm
  | initBadSize hd he hb ht =>
    have hsize := (sampledBlockSize_eq_none s).mp hb
    rw [ht, statusField_raise, hd]
    exact ((if_neg (ne_true_of_eq_false he)).trans (if_pos hsize)).symm
  | initDone b hd he hb ht =>
    have hsize : ¬(s.smpBs ≠ 8 ∧ s.smpBs ≠ 16) := fun hbad =>
      nomatch hb.symm.trans ((sampledBlockSize_eq_none s).mpr hbad)
    rw [ht, statusField_respond, hd]
    exact ((if_neg (ne_true_of_eq_false he)).trans (if_neg hsize)).symm
  | notConfigured i hd hc hi ht =>
    rw [ht, statusField_raise, hd]
    rcases hi with ⟨len, rfl⟩ | rfl | rfl <;> exact (if_pos hc).symm
  | tooLong len hd hc hl ht =>
    rw [ht, statusField_raise, hd]
    exact ((if_neg (ne_false_of_eq_true hc)).trans (if_pos hl)).symm
  | written len hd hc hl ht =>
    rw [ht, statusField_respond, hd]
    exact ((if_neg (ne_false_of_eq_true hc)).trans (if_neg (Nat.not_lt.mpr hl))).symm
  | finalized hd hc ht | cleared hd hc ht =>
    rw [ht, statusField_respond, hd]
    exact (if_neg (ne_false_of_eq_true hc)).symm
  | reported hd ht => rw [ht, statusField_respond, hd]; rfl

/-! ## What an error leaves (R187) -/

/-- Settles O30: every error is raised either on the state itself or, by INIT, on the zeroized one; the status tells which,
and OK is neither. -/
theorem errorEffects : Obligations.ErrorEffects := by
  intro s t h
  cases runCommand_effect s t h with
  | illegal _ _ ht | notConfigured _ _ _ _ ht | tooLong _ _ _ _ ht =>
    refine ⟨fun _ => by rw [ht]; rfl, fun hst => ?_⟩
    rw [ht, statusField_raise] at hst
    exact absurd hst (by decide)
  | initError _ _ ht | initBadSize _ _ _ ht =>
    refine ⟨fun hst => ?_, fun _ => by rw [ht]; rfl⟩
    rw [ht, statusField_raise] at hst
    exact absurd hst (by decide)
  | initDone _ _ _ _ ht | written _ _ _ _ ht | finalized _ _ ht | cleared _ _ ht | reported _ ht =>
    have hok : statusField t.rspWord = Status.ok.code := by rw [ht, statusField_respond]
    rw [hok]
    exact ⟨fun hst => absurd hst (by decide), fun hst => absurd hst (by decide)⟩

end Sys2Proof.Machine
end

section
/-! PROOFS. Reset and hazards (spec/70_reset_and_hazards.md): what one edge of hardware reset leaves (R210, R212), what the
core answers right after it (R211), and which responses carry a tag (R221). -/

namespace Sys2Proof.Machine

/-! ## Which responses carry a tag (R221) -/

/-- Every way a command can end but a FINALIZE with status OK answers with an all-zero tag. -/
theorem runCommand_rspTag_zero (s t : State) (h : runCommand s = .next t)
    (hn : ¬(decode s.cmdWord = .ok .finalize ∧ statusField t.rspWord = Status.ok.code)) : t.rspTag = 0 := by
  cases runCommand_effect s t h with
  | finalized hd _ ht => exact absurd ⟨hd, by rw [ht, statusField_respond]⟩ hn
  | _ => subst t; rfl

/-- Settles O31: the lanes are part of the invariant that every response meets, and only FINALIZE loads a tag. -/
theorem tagOnlyFromFinalize : Obligations.TagOnlyFromFinalize := by
  intro s t h
  obtain ⟨-, -, -, -, hlanes⟩ := runCommand_responseInv s t h
  exact ⟨hlanes, runCommand_rspTag_zero s t h⟩

/-! ## Hardware reset (R210, R212) -/

/-- While `rst_n` = 0 the core drives every valid and ready output to 0, whatever PHASE is (R210). -/
theorem outputs_inReset (s : State) (h : s.nextEdge.rstN = false) :
    s.outputs.cmdReady = false ∧ s.outputs.rspValid = false ∧ s.outputs.encReqValid = false ∧
    s.outputs.encRspReady = false := by
  simp [State.outputs, h]

/-- Settles O45: the edge leads to `hardReset`, whose registers hold their reset values and whose PHASE is IDLE. -/
theorem hardwareReset : Obligations.HardwareReset := by
  intro s h
  obtain ⟨hcmd, hrsp, hreq, hans⟩ := outputs_inReset s h
  refine ⟨hcmd, hrsp, hreq, hans, s.atEdge.hardReset, step_reset s h, ?_⟩
  have hready : s.atEdge.hardReset.nextEdge.rstN = true → s.atEdge.hardReset.outputs.cmdReady = true :=
    fun hr => (outputs_cmdReady _).mpr ⟨hr, State.hardReset_phase _⟩
  exact ⟨rfl, rfl, rfl, rfl, rfl, rfl, rfl, rfl, rfl, rfl, hready⟩

/-! ## The first answers (R211) -/

/-- Settles O46: after reset there is no instance, so BS_REG is 0 for INFO and the other three refuse (R183). -/
theorem answersAfterReset : Obligations.AnswersAfterReset := by
  have hrefuse := noInstanceAnswersNotConfigured State.reset
  refine ⟨infoReportsTheBlockSize State.reset, fun len => ?_, ?_, ?_⟩
  · exact hrefuse (.write len) rfl (.inl ⟨len, rfl⟩)
  · exact hrefuse .finalize rfl (.inr (.inl rfl))
  · exact hrefuse .reset rfl (.inr (.inr rfl))

end Sys2Proof.Machine
end

section
/-! PROOFS. A word of the opcode table put where the core runs its next command from (log entry 11): what the placed word is,
what the next step does with it, and the state it hands to the command. -/

namespace Sys2Proof.Machine

/-- The words of the opcode table that name a command: they fit their row, a row fits the command word, and they decode
(R80, R87). -/
theorem decodeTableWord_eq_some (nbits w : Nat) (i : Instr) :
    decodeTableWord nbits w = some i ↔ (nbits ≤ 32 ∧ w < 2 ^ nbits) ∧ decode (BitVec.ofNat 32 w) = .ok i := by
  unfold decodeTableWord
  cases decode (BitVec.ofNat 32 w) <;> simp

/-- A placed word is the command in progress at an edge that completes it, and no edge listed before is used up. -/
theorem step_withCommand (s : State) (word : Word32) :
    step (s.withCommand word) = runCommand ((s.sample word s.cmdData).setEnc .done) :=
  step_complete (s.withCommand word) rfl rfl rfl rfl (.inl rfl)

/-- Placing a word that fits its row puts it on the command port whole. -/
theorem withFetchWord_eq_withCommand (s : State) (nbits w : Nat) (h : w < 2 ^ nbits) :
    s.withFetchWord nbits w = s.withCommand (BitVec.ofNat 32 w) := by
  rw [State.withFetchWord, Nat.mod_eq_of_lt h]

/-- What accepting a command's word samples: the wrapper's pins for INIT, and no pin for any other command (R37). -/
theorem sample_of_decode (s : State) (word : Word32) (d : Block) (i : Instr) (h : decode word = .ok i) :
    s.sample word d = { s with
      cmdWord := word, cmdData := d, phase := .busy, enc := .start
      smpBs := if i = .init then s.wrapper.cipherBs else s.smpBs
      smpErr := if i = .init then s.wrapper.cipherErr else s.smpErr
      smpErrCode := if i = .init ∧ s.wrapper.cipherErr = true then s.wrapper.cipherErrCode else s.smpErrCode } := by
  have hread : wordReadsWrapper word = true ↔ i = .init := by simp [wordReadsWrapper_iff, h]
  simp [State.sample, hread]

/-- Settles O7: the placed word is the table's, the next step runs what was sampled of it, and it decodes to the command. -/
theorem placedWordRunsNext : Obligations.PlacedWordRunsNext := by
  intro s nbits w i h
  obtain ⟨⟨-, hfits⟩, hdecode⟩ := (decodeTableWord_eq_some nbits w i).mp h
  rw [withFetchWord_eq_withCommand s nbits w hfits, step_withCommand,
    runCommand_decoded _ i (by simpa using hdecode), sample_of_decode s _ _ i hdecode]
  rfl

end Sys2Proof.Machine
end
